-- ==== Sys2Proof/Word.lean ====
section
/-! DEFINITION. The words of the block: bytes, 32-bit registers, 16-bit dispatch keys, 9-bit gray-level counts
(spec 00_scope.md R4, R5). -/

namespace Sys2Proof

/-- One byte of memory, one sample, one 8-bit colour channel. -/
abbrev Byte := BitVec 8

/-- One register of the register file (10_state.md R20). -/
abbrev Word := BitVec 32

/-- One dispatch key (30_encoding.md R101). -/
abbrev Key := BitVec 16

/-- One gray-level count as `SRC_MODE.GRAYS` and `TGT_MODE.GRAYS` hold it (10_state.md R29). -/
abbrev Count := BitVec 9

end Sys2Proof
end

