-- ==== Sys2Proof/Syntax.lean ====
section
/-! DEFINITION. The syntax: pixel formats (spec 30_encoding.md R95) and the instructions, one constructor for each
row of spec/opcode_table.json (R104: the rows of the dispatch table; 45_dispatch.md R242: `START`).
A row's don't-care key bits (R101) are operands of its constructor, so a key is read back whole; no rule gives them
an effect on the row, so no meaning reads them. -/

namespace Sys2Proof

/-- Pixel formats, in the order of 30_encoding.md R95; `rsv13` to `rsv15` are the reserved codes of R96. -/
inductive Format where
  | none
  | mono
  | pal4
  | pal8
  | gray
  | lcdH
  | lcdHR
  | lcdV
  | lcdVR
  | rgb555
  | rgb565
  | rgb24
  | rgb32
  | rsv13
  | rsv14
  | rsv15
  deriving DecidableEq, Repr

/-- The instructions. `geq`, `tg2`, `s256`, `sg2` are the key bits `GEQ`, `TG2`, `S256`, `SG2` that the row does not
decode, `tf` the target format of a row for any target (30_encoding.md R101, R104). -/
inductive Instr where
  -- monochrome OR-blit (41_mono.md)
  | m2m (geq tg2 s256 sg2 : Bool)
  | m2p4 (geq tg2 s256 sg2 : Bool)
  | m2p8 (geq tg2 s256 sg2 : Bool)
  | m2g8 (geq tg2 s256 sg2 : Bool)
  | m2r555 (geq tg2 s256 sg2 : Bool)
  | m2r565 (geq tg2 s256 sg2 : Bool)
  | m2r24 (geq tg2 s256 sg2 : Bool)
  | m2r32 (geq tg2 s256 sg2 : Bool)
  -- gray blend, general law (42_gray.md)
  | g2r555 (geq tg2 : Bool)
  | g2r565 (geq tg2 : Bool)
  | g2r24 (geq tg2 : Bool)
  | g2r32 (geq tg2 : Bool)
  -- gray blend, 256-level fast law (42_gray.md)
  | g8r555 (geq tg2 : Bool)
  | g8r565 (geq tg2 : Bool)
  | g8r24 (geq tg2 : Bool)
  | g8r32 (geq tg2 : Bool)
  -- gray into gray (42_gray.md)
  | g2gSame (s256 : Bool)
  | g2gConv (s256 : Bool)
  -- LCD subpixel blend (43_lcd.md)
  | lcdh (geq tg2 : Bool)
  | lcdh8 (geq tg2 : Bool)
  | lcdhr (geq tg2 : Bool)
  | lcdhr8 (geq tg2 : Bool)
  | lcdv (geq tg2 s256 : Bool)
  | lcdvr (geq tg2 s256 : Bool)
  -- unsupported target depth (45_dispatch.md R255)
  | errTgtMonoNone (geq tg2 s256 sg2 : Bool)
  | errTgtMonoLcdH (geq tg2 s256 sg2 : Bool)
  | errTgtMonoLcdHR (geq tg2 s256 sg2 : Bool)
  | errTgtMonoLcdV (geq tg2 s256 sg2 : Bool)
  | errTgtMonoLcdVR (geq tg2 s256 sg2 : Bool)
  | errTgtMonoRsv13 (geq tg2 s256 sg2 : Bool)
  | errTgtMonoRsv14 (geq tg2 s256 sg2 : Bool)
  | errTgtMonoRsv15 (geq tg2 s256 sg2 : Bool)
  | errTgtGrayNone (geq tg2 s256 : Bool)
  | errTgtGrayMono (geq tg2 s256 : Bool)
  | errTgtGrayPal4 (geq tg2 s256 : Bool)
  | errTgtGrayPal8 (geq tg2 s256 : Bool)
  | errTgtGrayLcdH (geq tg2 s256 : Bool)
  | errTgtGrayLcdHR (geq tg2 s256 : Bool)
  | errTgtGrayLcdV (geq tg2 s256 : Bool)
  | errTgtGrayLcdVR (geq tg2 s256 : Bool)
  | errTgtGrayRsv13 (geq tg2 s256 : Bool)
  | errTgtGrayRsv14 (geq tg2 s256 : Bool)
  | errTgtGrayRsv15 (geq tg2 s256 : Bool)
  | errTgtGrayBadcount (geq s256 : Bool)
  -- invalid gray-level count (45_dispatch.md R256)
  | errArgGrayAny (geq tg2 s256 : Bool) (tf : Format)
  | errArgLcdHRgb24 (geq tg2 s256 : Bool)
  | errArgLcdHRRgb24 (geq tg2 s256 : Bool)
  | errArgLcdVRgb24 (geq tg2 s256 : Bool)
  | errArgLcdVRRgb24 (geq tg2 s256 : Bool)
  -- LCD source, target not RGB24: nothing to draw (45_dispatch.md R257)
  | noopLcdHNone (geq tg2 s256 sg2 : Bool)
  | noopLcdHMono (geq tg2 s256 sg2 : Bool)
  | noopLcdHPal4 (geq tg2 s256 sg2 : Bool)
  | noopLcdHPal8 (geq tg2 s256 sg2 : Bool)
  | noopLcdHGray (geq tg2 s256 sg2 : Bool)
  | noopLcdHLcdH (geq tg2 s256 sg2 : Bool)
  | noopLcdHLcdHR (geq tg2 s256 sg2 : Bool)
  | noopLcdHLcdV (geq tg2 s256 sg2 : Bool)
  | noopLcdHLcdVR (geq tg2 s256 sg2 : Bool)
  | noopLcdHRgb555 (geq tg2 s256 sg2 : Bool)
  | noopLcdHRgb565 (geq tg2 s256 sg2 : Bool)
  | noopLcdHRgb32 (geq tg2 s256 sg2 : Bool)
  | noopLcdHRsv13 (geq tg2 s256 sg2 : Bool)
  | noopLcdHRsv14 (geq tg2 s256 sg2 : Bool)
  | noopLcdHRsv15 (geq tg2 s256 sg2 : Bool)
  | noopLcdHRNone (geq tg2 s256 sg2 : Bool)
  | noopLcdHRMono (geq tg2 s256 sg2 : Bool)
  | noopLcdHRPal4 (geq tg2 s256 sg2 : Bool)
  | noopLcdHRPal8 (geq tg2 s256 sg2 : Bool)
  | noopLcdHRGray (geq tg2 s256 sg2 : Bool)
  | noopLcdHRLcdH (geq tg2 s256 sg2 : Bool)
  | noopLcdHRLcdHR (geq tg2 s256 sg2 : Bool)
  | noopLcdHRLcdV (geq tg2 s256 sg2 : Bool)
  | noopLcdHRLcdVR (geq tg2 s256 sg2 : Bool)
  | noopLcdHRRgb555 (geq tg2 s256 sg2 : Bool)
  | noopLcdHRRgb565 (geq tg2 s256 sg2 : Bool)
  | noopLcdHRRgb32 (geq tg2 s256 sg2 : Bool)
  | noopLcdHRRsv13 (geq tg2 s256 sg2 : Bool)
  | noopLcdHRRsv14 (geq tg2 s256 sg2 : Bool)
  | noopLcdHRRsv15 (geq tg2 s256 sg2 : Bool)
  | noopLcdVNone (geq tg2 s256 sg2 : Bool)
  | noopLcdVMono (geq tg2 s256 sg2 : Bool)
  | noopLcdVPal4 (geq tg2 s256 sg2 : Bool)
  | noopLcdVPal8 (geq tg2 s256 sg2 : Bool)
  | noopLcdVGray (geq tg2 s256 sg2 : Bool)
  | noopLcdVLcdH (geq tg2 s256 sg2 : Bool)
  | noopLcdVLcdHR (geq tg2 s256 sg2 : Bool)
  | noopLcdVLcdV (geq tg2 s256 sg2 : Bool)
  | noopLcdVLcdVR (geq tg2 s256 sg2 : Bool)
  | noopLcdVRgb555 (geq tg2 s256 sg2 : Bool)
  | noopLcdVRgb565 (geq tg2 s256 sg2 : Bool)
  | noopLcdVRgb32 (geq tg2 s256 sg2 : Bool)
  | noopLcdVRsv13 (geq tg2 s256 sg2 : Bool)
  | noopLcdVRsv14 (geq tg2 s256 sg2 : Bool)
  | noopLcdVRsv15 (geq tg2 s256 sg2 : Bool)
  | noopLcdVRNone (geq tg2 s256 sg2 : Bool)
  | noopLcdVRMono (geq tg2 s256 sg2 : Bool)
  | noopLcdVRPal4 (geq tg2 s256 sg2 : Bool)
  | noopLcdVRPal8 (geq tg2 s256 sg2 : Bool)
  | noopLcdVRGray (geq tg2 s256 sg2 : Bool)
  | noopLcdVRLcdH (geq tg2 s256 sg2 : Bool)
  | noopLcdVRLcdHR (geq tg2 s256 sg2 : Bool)
  | noopLcdVRLcdV (geq tg2 s256 sg2 : Bool)
  | noopLcdVRLcdVR (geq tg2 s256 sg2 : Bool)
  | noopLcdVRRgb555 (geq tg2 s256 sg2 : Bool)
  | noopLcdVRRgb565 (geq tg2 s256 sg2 : Bool)
  | noopLcdVRRgb32 (geq tg2 s256 sg2 : Bool)
  | noopLcdVRRsv13 (geq tg2 s256 sg2 : Bool)
  | noopLcdVRRsv14 (geq tg2 s256 sg2 : Bool)
  | noopLcdVRRsv15 (geq tg2 s256 sg2 : Bool)
  -- unsupported source depth (45_dispatch.md R254)
  | errSrcNoneAny (geq tg2 s256 sg2 : Bool) (tf : Format)
  | errSrcPal4Any (geq tg2 s256 sg2 : Bool) (tf : Format)
  | errSrcPal8Any (geq tg2 s256 sg2 : Bool) (tf : Format)
  | errSrcRgb555Any (geq tg2 s256 sg2 : Bool) (tf : Format)
  | errSrcRgb565Any (geq tg2 s256 sg2 : Bool) (tf : Format)
  | errSrcRgb24Any (geq tg2 s256 sg2 : Bool) (tf : Format)
  | errSrcRgb32Any (geq tg2 s256 sg2 : Bool) (tf : Format)
  | errSrcRsv13Any (geq tg2 s256 sg2 : Bool) (tf : Format)
  | errSrcRsv14Any (geq tg2 s256 sg2 : Bool) (tf : Format)
  | errSrcRsv15Any (geq tg2 s256 sg2 : Bool) (tf : Format)
  -- the word written to CTRL with START set; bits 31:1 are ignored (45_dispatch.md R242, 10_state.md R22)
  | start (rsv : BitVec 31)
  deriving DecidableEq, Repr

end Sys2Proof
end

