-- ==== Sys2Proof/WellFormed.lean ====
section
/-! DEFINITION. Which instructions a command can form. A key's four count bits come from two counts (30_encoding.md
R102), so not every combination is formed (R103). The decoder still reads the others, as R103 says the table does. -/

namespace Sys2Proof

/-- A source count of 256 is valid: `S256` comes with `SG2` (30_encoding.md R102, R103). -/
def fastNeedsValid (s256 sg2 : Bool) : Bool := !s256 || sg2

/-- Equal counts are both valid or both invalid: `GEQ` comes with `SG2 = TG2` (30_encoding.md R102). -/
def equalNeedsSame (geq tg2 sg2 : Bool) : Bool := !geq || (sg2 == tg2)

/-- The count bits of a key that two counts can form. -/
def formable (geq tg2 s256 sg2 : Bool) : Bool := fastNeedsValid s256 sg2 && equalNeedsSame geq tg2 sg2

/-- The instruction is one that some command forms. -/
def Instr.wellFormed : Instr → Bool
  | .m2m geq tg2 s256 sg2 => formable geq tg2 s256 sg2
  | .m2p4 geq tg2 s256 sg2 => formable geq tg2 s256 sg2
  | .m2p8 geq tg2 s256 sg2 => formable geq tg2 s256 sg2
  | .m2g8 geq tg2 s256 sg2 => formable geq tg2 s256 sg2
  | .m2r555 geq tg2 s256 sg2 => formable geq tg2 s256 sg2
  | .m2r565 geq tg2 s256 sg2 => formable geq tg2 s256 sg2
  | .m2r24 geq tg2 s256 sg2 => formable geq tg2 s256 sg2
  | .m2r32 geq tg2 s256 sg2 => formable geq tg2 s256 sg2
  | .g2r555 geq tg2 => formable geq tg2 false true
  | .g2r565 geq tg2 => formable geq tg2 false true
  | .g2r24 geq tg2 => formable geq tg2 false true
  | .g2r32 geq tg2 => formable geq tg2 false true
  | .g8r555 geq tg2 => formable geq tg2 true true
  | .g8r565 geq tg2 => formable geq tg2 true true
  | .g8r24 geq tg2 => formable geq tg2 true true
  | .g8r32 geq tg2 => formable geq tg2 true true
  | .g2gSame s256 => formable true true s256 true
  | .g2gConv s256 => formable false true s256 true
  | .lcdh geq tg2 => formable geq tg2 false true
  | .lcdh8 geq tg2 => formable geq tg2 true true
  | .lcdhr geq tg2 => formable geq tg2 false true
  | .lcdhr8 geq tg2 => formable geq tg2 true true
  | .lcdv geq tg2 s256 => formable geq tg2 s256 true
  | .lcdvr geq tg2 s256 => formable geq tg2 s256 true
  | .errTgtMonoNone geq tg2 s256 sg2 => formable geq tg2 s256 sg2
  | .errTgtMonoLcdH geq tg2 s256 sg2 => formable geq tg2 s256 sg2
  | .errTgtMonoLcdHR geq tg2 s256 sg2 => formable geq tg2 s256 sg2
  | .errTgtMonoLcdV geq tg2 s256 sg2 => formable geq tg2 s256 sg2
  | .errTgtMonoLcdVR geq tg2 s256 sg2 => formable geq tg2 s256 sg2
  | .errTgtMonoRsv13 geq tg2 s256 sg2 => formable geq tg2 s256 sg2
  | .errTgtMonoRsv14 geq tg2 s256 sg2 => formable geq tg2 s256 sg2
  | .errTgtMonoRsv15 geq tg2 s256 sg2 => formable geq tg2 s256 sg2
  | .errTgtGrayNone geq tg2 s256 => formable geq tg2 s256 true
  | .errTgtGrayMono geq tg2 s256 => formable geq tg2 s256 true
  | .errTgtGrayPal4 geq tg2 s256 => formable geq tg2 s256 true
  | .errTgtGrayPal8 geq tg2 s256 => formable geq tg2 s256 true
  | .errTgtGrayLcdH geq tg2 s256 => formable geq tg2 s256 true
  | .errTgtGrayLcdHR geq tg2 s256 => formable geq tg2 s256 true
  | .errTgtGrayLcdV geq tg2 s256 => formable geq tg2 s256 true
  | .errTgtGrayLcdVR geq tg2 s256 => formable geq tg2 s256 true
  | .errTgtGrayRsv13 geq tg2 s256 => formable geq tg2 s256 true
  | .errTgtGrayRsv14 geq tg2 s256 => formable geq tg2 s256 true
  | .errTgtGrayRsv15 geq tg2 s256 => formable geq tg2 s256 true
  | .errTgtGrayBadcount geq s256 => formable geq false s256 true
  | .errArgGrayAny geq tg2 s256 _ => formable geq tg2 s256 false
  | .errArgLcdHRgb24 geq tg2 s256 => formable geq tg2 s256 false
  | .errArgLcdHRRgb24 geq tg2 s256 => formable geq tg2 s256 false
  | .errArgLcdVRgb24 geq tg2 s256 => formable geq tg2 s256 false
  | .errArgLcdVRRgb24 geq tg2 s256 => formable geq tg2 s256 false
  | .noopLcdHNone geq tg2 s256 sg2 => formable geq tg2 s256 sg2
  | .noopLcdHMono geq tg2 s256 sg2 => formable geq tg2 s256 sg2
  | .noopLcdHPal4 geq tg2 s256 sg2 => formable geq tg2 s256 sg2
  | .noopLcdHPal8 geq tg2 s256 sg2 => formable geq tg2 s256 sg2
  | .noopLcdHGray geq tg2 s256 sg2 => formable geq tg2 s256 sg2
  | .noopLcdHLcdH geq tg2 s256 sg2 => formable geq tg2 s256 sg2
  | .noopLcdHLcdHR geq tg2 s256 sg2 => formable geq tg2 s256 sg2
  | .noopLcdHLcdV geq tg2 s256 sg2 => formable geq tg2 s256 sg2
  | .noopLcdHLcdVR geq tg2 s256 sg2 => formable geq tg2 s256 sg2
  | .noopLcdHRgb555 geq tg2 s256 sg2 => formable geq tg2 s256 sg2
  | .noopLcdHRgb565 geq tg2 s256 sg2 => formable geq tg2 s256 sg2
  | .noopLcdHRgb32 geq tg2 s256 sg2 => formable geq tg2 s256 sg2
  | .noopLcdHRsv13 geq tg2 s256 sg2 => formable geq tg2 s256 sg2
  | .noopLcdHRsv14 geq tg2 s256 sg2 => formable geq tg2 s256 sg2
  | .noopLcdHRsv15 geq tg2 s256 sg2 => formable geq tg2 s256 sg2
  | .noopLcdHRNone geq tg2 s256 sg2 => formable geq tg2 s256 sg2
  | .noopLcdHRMono geq tg2 s256 sg2 => formable geq tg2 s256 sg2
  | .noopLcdHRPal4 geq tg2 s256 sg2 => formable geq tg2 s256 sg2
  | .noopLcdHRPal8 geq tg2 s256 sg2 => formable geq tg2 s256 sg2
  | .noopLcdHRGray geq tg2 s256 sg2 => formable geq tg2 s256 sg2
  | .noopLcdHRLcdH geq tg2 s256 sg2 => formable geq tg2 s256 sg2
  | .noopLcdHRLcdHR geq tg2 s256 sg2 => formable geq tg2 s256 sg2
  | .noopLcdHRLcdV geq tg2 s256 sg2 => formable geq tg2 s256 sg2
  | .noopLcdHRLcdVR geq tg2 s256 sg2 => formable geq tg2 s256 sg2
  | .noopLcdHRRgb555 geq tg2 s256 sg2 => formable geq tg2 s256 sg2
  | .noopLcdHRRgb565 geq tg2 s256 sg2 => formable geq tg2 s256 sg2
  | .noopLcdHRRgb32 geq tg2 s256 sg2 => formable geq tg2 s256 sg2
  | .noopLcdHRRsv13 geq tg2 s256 sg2 => formable geq tg2 s256 sg2
  | .noopLcdHRRsv14 geq tg2 s256 sg2 => formable geq tg2 s256 sg2
  | .noopLcdHRRsv15 geq tg2 s256 sg2 => formable geq tg2 s256 sg2
  | .noopLcdVNone geq tg2 s256 sg2 => formable geq tg2 s256 sg2
  | .noopLcdVMono geq tg2 s256 sg2 => formable geq tg2 s256 sg2
  | .noopLcdVPal4 geq tg2 s256 sg2 => formable geq tg2 s256 sg2
  | .noopLcdVPal8 geq tg2 s256 sg2 => formable geq tg2 s256 sg2
  | .noopLcdVGray geq tg2 s256 sg2 => formable geq tg2 s256 sg2
  | .noopLcdVLcdH geq tg2 s256 sg2 => formable geq tg2 s256 sg2
  | .noopLcdVLcdHR geq tg2 s256 sg2 => formable geq tg2 s256 sg2
  | .noopLcdVLcdV geq tg2 s256 sg2 => formable geq tg2 s256 sg2
  | .noopLcdVLcdVR geq tg2 s256 sg2 => formable geq tg2 s256 sg2
  | .noopLcdVRgb555 geq tg2 s256 sg2 => formable geq tg2 s256 sg2
  | .noopLcdVRgb565 geq tg2 s256 sg2 => formable geq tg2 s256 sg2
  | .noopLcdVRgb32 geq tg2 s256 sg2 => formable geq tg2 s256 sg2
  | .noopLcdVRsv13 geq tg2 s256 sg2 => formable geq tg2 s256 sg2
  | .noopLcdVRsv14 geq tg2 s256 sg2 => formable geq tg2 s256 sg2
  | .noopLcdVRsv15 geq tg2 s256 sg2 => formable geq tg2 s256 sg2
  | .noopLcdVRNone geq tg2 s256 sg2 => formable geq tg2 s256 sg2
  | .noopLcdVRMono geq tg2 s256 sg2 => formable geq tg2 s256 sg2
  | .noopLcdVRPal4 geq tg2 s256 sg2 => formable geq tg2 s256 sg2
  | .noopLcdVRPal8 geq tg2 s256 sg2 => formable geq tg2 s256 sg2
  | .noopLcdVRGray geq tg2 s256 sg2 => formable geq tg2 s256 sg2
  | .noopLcdVRLcdH geq tg2 s256 sg2 => formable geq tg2 s256 sg2
  | .noopLcdVRLcdHR geq tg2 s256 sg2 => formable geq tg2 s256 sg2
  | .noopLcdVRLcdV geq tg2 s256 sg2 => formable geq tg2 s256 sg2
  | .noopLcdVRLcdVR geq tg2 s256 sg2 => formable geq tg2 s256 sg2
  | .noopLcdVRRgb555 geq tg2 s256 sg2 => formable geq tg2 s256 sg2
  | .noopLcdVRRgb565 geq tg2 s256 sg2 => formable geq tg2 s256 sg2
  | .noopLcdVRRgb32 geq tg2 s256 sg2 => formable geq tg2 s256 sg2
  | .noopLcdVRRsv13 geq tg2 s256 sg2 => formable geq tg2 s256 sg2
  | .noopLcdVRRsv14 geq tg2 s256 sg2 => formable geq tg2 s256 sg2
  | .noopLcdVRRsv15 geq tg2 s256 sg2 => formable geq tg2 s256 sg2
  | .errSrcNoneAny geq tg2 s256 sg2 _ => formable geq tg2 s256 sg2
  | .errSrcPal4Any geq tg2 s256 sg2 _ => formable geq tg2 s256 sg2
  | .errSrcPal8Any geq tg2 s256 sg2 _ => formable geq tg2 s256 sg2
  | .errSrcRgb555Any geq tg2 s256 sg2 _ => formable geq tg2 s256 sg2
  | .errSrcRgb565Any geq tg2 s256 sg2 _ => formable geq tg2 s256 sg2
  | .errSrcRgb24Any geq tg2 s256 sg2 _ => formable geq tg2 s256 sg2
  | .errSrcRgb32Any geq tg2 s256 sg2 _ => formable geq tg2 s256 sg2
  | .errSrcRsv13Any geq tg2 s256 sg2 _ => formable geq tg2 s256 sg2
  | .errSrcRsv14Any geq tg2 s256 sg2 _ => formable geq tg2 s256 sg2
  | .errSrcRsv15Any geq tg2 s256 sg2 _ => formable geq tg2 s256 sg2
  | .start _ => true

end Sys2Proof
end

