-- ==== Sys2Proof/Decode.lean ====
section
/-! DEFINITION. The decoder of dispatch keys and of `CTRL` words, the encoder, and the dispatch table as masks and
matches (spec 30_encoding.md R95, R101, R104; 45_dispatch.md R242, R248 to R253). -/

namespace Sys2Proof

/-- The format of a 4-bit code (30_encoding.md R95, R96). -/
def Format.ofCode (c : BitVec 4) : Format :=
  match c.toNat with
  | 0 => .none
  | 1 => .mono
  | 2 => .pal4
  | 3 => .pal8
  | 4 => .gray
  | 5 => .lcdH
  | 6 => .lcdHR
  | 7 => .lcdV
  | 8 => .lcdVR
  | 9 => .rgb555
  | 10 => .rgb565
  | 11 => .rgb24
  | 12 => .rgb32
  | 13 => .rsv13
  | 14 => .rsv14
  | _ => .rsv15

/-- The 4-bit code of a format (30_encoding.md R95, R96). -/
def Format.code : Format → BitVec 4
  | .none => 0
  | .mono => 1
  | .pal4 => 2
  | .pal8 => 3
  | .gray => 4
  | .lcdH => 5
  | .lcdHR => 6
  | .lcdV => 7
  | .lcdVR => 8
  | .rgb555 => 9
  | .rgb565 => 10
  | .rgb24 => 11
  | .rgb32 => 12
  | .rsv13 => 13
  | .rsv14 => 14
  | .rsv15 => 15

/-- A word offered to the decoder: a dispatch key, or a word written to `CTRL`. -/
inductive Code where
  | key (k : Key)
  | ctrl (w : Word)
  deriving DecidableEq, Repr

/-- Why a word is no instruction. -/
inductive DecodeError where
  /-- Key bits 15:12 are not 0: such a key is never formed (30_encoding.md R103, R106). -/
  | reservedKey
  /-- A `CTRL` word with `START = 0`, which has no effect (10_state.md R22). -/
  | noStart
  deriving DecidableEq, Repr

/-- Mono branch (45_dispatch.md R249). -/
def monoBranch (tf : Format) (geq tg2 s256 sg2 : Bool) : Instr :=
  match tf with
  | .none => .errTgtMonoNone geq tg2 s256 sg2
  | .mono => .m2m geq tg2 s256 sg2
  | .pal4 => .m2p4 geq tg2 s256 sg2
  | .pal8 => .m2p8 geq tg2 s256 sg2
  | .gray => .m2g8 geq tg2 s256 sg2
  | .lcdH => .errTgtMonoLcdH geq tg2 s256 sg2
  | .lcdHR => .errTgtMonoLcdHR geq tg2 s256 sg2
  | .lcdV => .errTgtMonoLcdV geq tg2 s256 sg2
  | .lcdVR => .errTgtMonoLcdVR geq tg2 s256 sg2
  | .rgb555 => .m2r555 geq tg2 s256 sg2
  | .rgb565 => .m2r565 geq tg2 s256 sg2
  | .rgb24 => .m2r24 geq tg2 s256 sg2
  | .rgb32 => .m2r32 geq tg2 s256 sg2
  | .rsv13 => .errTgtMonoRsv13 geq tg2 s256 sg2
  | .rsv14 => .errTgtMonoRsv14 geq tg2 s256 sg2
  | .rsv15 => .errTgtMonoRsv15 geq tg2 s256 sg2

/-- Gray branch (45_dispatch.md R250): the source count is tested before the target. -/
def grayBranch (tf : Format) (geq tg2 s256 sg2 : Bool) : Instr :=
  if sg2 then
    match tf with
    | .none => .errTgtGrayNone geq tg2 s256
    | .mono => .errTgtGrayMono geq tg2 s256
    | .pal4 => .errTgtGrayPal4 geq tg2 s256
    | .pal8 => .errTgtGrayPal8 geq tg2 s256
    | .gray => if tg2 then (if geq then .g2gSame s256 else .g2gConv s256) else .errTgtGrayBadcount geq s256
    | .lcdH => .errTgtGrayLcdH geq tg2 s256
    | .lcdHR => .errTgtGrayLcdHR geq tg2 s256
    | .lcdV => .errTgtGrayLcdV geq tg2 s256
    | .lcdVR => .errTgtGrayLcdVR geq tg2 s256
    | .rgb555 => if s256 then .g8r555 geq tg2 else .g2r555 geq tg2
    | .rgb565 => if s256 then .g8r565 geq tg2 else .g2r565 geq tg2
    | .rgb24 => if s256 then .g8r24 geq tg2 else .g2r24 geq tg2
    | .rgb32 => if s256 then .g8r32 geq tg2 else .g2r32 geq tg2
    | .rsv13 => .errTgtGrayRsv13 geq tg2 s256
    | .rsv14 => .errTgtGrayRsv14 geq tg2 s256
    | .rsv15 => .errTgtGrayRsv15 geq tg2 s256
  else .errArgGrayAny geq tg2 s256 tf

/-- LCD horizontal branch (45_dispatch.md R251): the target is tested before the count. -/
def lcdHBranch (tf : Format) (geq tg2 s256 sg2 : Bool) : Instr :=
  match tf with
  | .none => .noopLcdHNone geq tg2 s256 sg2
  | .mono => .noopLcdHMono geq tg2 s256 sg2
  | .pal4 => .noopLcdHPal4 geq tg2 s256 sg2
  | .pal8 => .noopLcdHPal8 geq tg2 s256 sg2
  | .gray => .noopLcdHGray geq tg2 s256 sg2
  | .lcdH => .noopLcdHLcdH geq tg2 s256 sg2
  | .lcdHR => .noopLcdHLcdHR geq tg2 s256 sg2
  | .lcdV => .noopLcdHLcdV geq tg2 s256 sg2
  | .lcdVR => .noopLcdHLcdVR geq tg2 s256 sg2
  | .rgb555 => .noopLcdHRgb555 geq tg2 s256 sg2
  | .rgb565 => .noopLcdHRgb565 geq tg2 s256 sg2
  | .rgb24 => if sg2 then (if s256 then .lcdh8 geq tg2 else .lcdh geq tg2) else .errArgLcdHRgb24 geq tg2 s256
  | .rgb32 => .noopLcdHRgb32 geq tg2 s256 sg2
  | .rsv13 => .noopLcdHRsv13 geq tg2 s256 sg2
  | .rsv14 => .noopLcdHRsv14 geq tg2 s256 sg2
  | .rsv15 => .noopLcdHRsv15 geq tg2 s256 sg2

/-- LCD horizontal reversed branch (45_dispatch.md R251). -/
def lcdHRBranch (tf : Format) (geq tg2 s256 sg2 : Bool) : Instr :=
  match tf with
  | .none => .noopLcdHRNone geq tg2 s256 sg2
  | .mono => .noopLcdHRMono geq tg2 s256 sg2
  | .pal4 => .noopLcdHRPal4 geq tg2 s256 sg2
  | .pal8 => .noopLcdHRPal8 geq tg2 s256 sg2
  | .gray => .noopLcdHRGray geq tg2 s256 sg2
  | .lcdH => .noopLcdHRLcdH geq tg2 s256 sg2
  | .lcdHR => .noopLcdHRLcdHR geq tg2 s256 sg2
  | .lcdV => .noopLcdHRLcdV geq tg2 s256 sg2
  | .lcdVR => .noopLcdHRLcdVR geq tg2 s256 sg2
  | .rgb555 => .noopLcdHRRgb555 geq tg2 s256 sg2
  | .rgb565 => .noopLcdHRRgb565 geq tg2 s256 sg2
  | .rgb24 => if sg2 then (if s256 then .lcdhr8 geq tg2 else .lcdhr geq tg2) else .errArgLcdHRRgb24 geq tg2 s256
  | .rgb32 => .noopLcdHRRgb32 geq tg2 s256 sg2
  | .rsv13 => .noopLcdHRRsv13 geq tg2 s256 sg2
  | .rsv14 => .noopLcdHRRsv14 geq tg2 s256 sg2
  | .rsv15 => .noopLcdHRRsv15 geq tg2 s256 sg2

/-- LCD vertical branch (45_dispatch.md R252). -/
def lcdVBranch (tf : Format) (geq tg2 s256 sg2 : Bool) : Instr :=
  match tf with
  | .none => .noopLcdVNone geq tg2 s256 sg2
  | .mono => .noopLcdVMono geq tg2 s256 sg2
  | .pal4 => .noopLcdVPal4 geq tg2 s256 sg2
  | .pal8 => .noopLcdVPal8 geq tg2 s256 sg2
  | .gray => .noopLcdVGray geq tg2 s256 sg2
  | .lcdH => .noopLcdVLcdH geq tg2 s256 sg2
  | .lcdHR => .noopLcdVLcdHR geq tg2 s256 sg2
  | .lcdV => .noopLcdVLcdV geq tg2 s256 sg2
  | .lcdVR => .noopLcdVLcdVR geq tg2 s256 sg2
  | .rgb555 => .noopLcdVRgb555 geq tg2 s256 sg2
  | .rgb565 => .noopLcdVRgb565 geq tg2 s256 sg2
  | .rgb24 => if sg2 then .lcdv geq tg2 s256 else .errArgLcdVRgb24 geq tg2 s256
  | .rgb32 => .noopLcdVRgb32 geq tg2 s256 sg2
  | .rsv13 => .noopLcdVRsv13 geq tg2 s256 sg2
  | .rsv14 => .noopLcdVRsv14 geq tg2 s256 sg2
  | .rsv15 => .noopLcdVRsv15 geq tg2 s256 sg2

/-- LCD vertical reversed branch (45_dispatch.md R253). -/
def lcdVRBranch (tf : Format) (geq tg2 s256 sg2 : Bool) : Instr :=
  match tf with
  | .none => .noopLcdVRNone geq tg2 s256 sg2
  | .mono => .noopLcdVRMono geq tg2 s256 sg2
  | .pal4 => .noopLcdVRPal4 geq tg2 s256 sg2
  | .pal8 => .noopLcdVRPal8 geq tg2 s256 sg2
  | .gray => .noopLcdVRGray geq tg2 s256 sg2
  | .lcdH => .noopLcdVRLcdH geq tg2 s256 sg2
  | .lcdHR => .noopLcdVRLcdHR geq tg2 s256 sg2
  | .lcdV => .noopLcdVRLcdV geq tg2 s256 sg2
  | .lcdVR => .noopLcdVRLcdVR geq tg2 s256 sg2
  | .rgb555 => .noopLcdVRRgb555 geq tg2 s256 sg2
  | .rgb565 => .noopLcdVRRgb565 geq tg2 s256 sg2
  | .rgb24 => if sg2 then .lcdvr geq tg2 s256 else .errArgLcdVRRgb24 geq tg2 s256
  | .rgb32 => .noopLcdVRRgb32 geq tg2 s256 sg2
  | .rsv13 => .noopLcdVRRsv13 geq tg2 s256 sg2
  | .rsv14 => .noopLcdVRRsv14 geq tg2 s256 sg2
  | .rsv15 => .noopLcdVRRsv15 geq tg2 s256 sg2

/-- The format-pair dispatch multiplexer (45_dispatch.md R248): the row of a key's fields. -/
def dispatchRow (sf tf : Format) (geq tg2 s256 sg2 : Bool) : Instr :=
  match sf with
  | .none => .errSrcNoneAny geq tg2 s256 sg2 tf
  | .mono => monoBranch tf geq tg2 s256 sg2
  | .pal4 => .errSrcPal4Any geq tg2 s256 sg2 tf
  | .pal8 => .errSrcPal8Any geq tg2 s256 sg2 tf
  | .gray => grayBranch tf geq tg2 s256 sg2
  | .lcdH => lcdHBranch tf geq tg2 s256 sg2
  | .lcdHR => lcdHRBranch tf geq tg2 s256 sg2
  | .lcdV => lcdVBranch tf geq tg2 s256 sg2
  | .lcdVR => lcdVRBranch tf geq tg2 s256 sg2
  | .rgb555 => .errSrcRgb555Any geq tg2 s256 sg2 tf
  | .rgb565 => .errSrcRgb565Any geq tg2 s256 sg2 tf
  | .rgb24 => .errSrcRgb24Any geq tg2 s256 sg2 tf
  | .rgb32 => .errSrcRgb32Any geq tg2 s256 sg2 tf
  | .rsv13 => .errSrcRsv13Any geq tg2 s256 sg2 tf
  | .rsv14 => .errSrcRsv14Any geq tg2 s256 sg2 tf
  | .rsv15 => .errSrcRsv15Any geq tg2 s256 sg2 tf

/-- The decoder of dispatch keys: total on the keys with bits 15:12 = 0, refusing the others (30_encoding.md R103,
R104). -/
def decodeKey (k : Key) : Except DecodeError Instr :=
  if k.extractLsb' 12 4 = 0 then
    .ok (dispatchRow (.ofCode (k.extractLsb' 0 4)) (.ofCode (k.extractLsb' 4 4))
      (k.getLsbD 11) (k.getLsbD 10) (k.getLsbD 9) (k.getLsbD 8))
  else .error .reservedKey

/-- The decoder of words written to `CTRL` (10_state.md R22): bit 0 is `START`. -/
def decodeCtrl (w : Word) : Except DecodeError Instr :=
  if w.getLsbD 0 then .ok (.start (w.extractLsb' 1 31)) else .error .noStart

/-- The decoder. -/
def decode : Code → Except DecodeError Instr
  | .key k => decodeKey k
  | .ctrl w => decodeCtrl w

/-- The key of given fields (30_encoding.md R101): bits 15:12 are 0. -/
def keyOf (sf tf : Format) (geq tg2 s256 sg2 : Bool) : Key :=
  0#4 ++ BitVec.ofBool geq ++ BitVec.ofBool tg2 ++ BitVec.ofBool s256 ++ BitVec.ofBool sg2 ++ tf.code ++ sf.code

/-- The encoder: an instruction's word, each row from its fixed bits in the table of 30_encoding.md R104. -/
def encode : Instr → Code
  | .m2m geq tg2 s256 sg2 => .key (keyOf .mono .mono geq tg2 s256 sg2)
  | .m2p4 geq tg2 s256 sg2 => .key (keyOf .mono .pal4 geq tg2 s256 sg2)
  | .m2p8 geq tg2 s256 sg2 => .key (keyOf .mono .pal8 geq tg2 s256 sg2)
  | .m2g8 geq tg2 s256 sg2 => .key (keyOf .mono .gray geq tg2 s256 sg2)
  | .m2r555 geq tg2 s256 sg2 => .key (keyOf .mono .rgb555 geq tg2 s256 sg2)
  | .m2r565 geq tg2 s256 sg2 => .key (keyOf .mono .rgb565 geq tg2 s256 sg2)
  | .m2r24 geq tg2 s256 sg2 => .key (keyOf .mono .rgb24 geq tg2 s256 sg2)
  | .m2r32 geq tg2 s256 sg2 => .key (keyOf .mono .rgb32 geq tg2 s256 sg2)
  | .g2r555 geq tg2 => .key (keyOf .gray .rgb555 geq tg2 false true)
  | .g2r565 geq tg2 => .key (keyOf .gray .rgb565 geq tg2 false true)
  | .g2r24 geq tg2 => .key (keyOf .gray .rgb24 geq tg2 false true)
  | .g2r32 geq tg2 => .key (keyOf .gray .rgb32 geq tg2 false true)
  | .g8r555 geq tg2 => .key (keyOf .gray .rgb555 geq tg2 true true)
  | .g8r565 geq tg2 => .key (keyOf .gray .rgb565 geq tg2 true true)
  | .g8r24 geq tg2 => .key (keyOf .gray .rgb24 geq tg2 true true)
  | .g8r32 geq tg2 => .key (keyOf .gray .rgb32 geq tg2 true true)
  | .g2gSame s256 => .key (keyOf .gray .gray true true s256 true)
  | .g2gConv s256 => .key (keyOf .gray .gray false true s256 true)
  | .lcdh geq tg2 => .key (keyOf .lcdH .rgb24 geq tg2 false true)
  | .lcdh8 geq tg2 => .key (keyOf .lcdH .rgb24 geq tg2 true true)
  | .lcdhr geq tg2 => .key (keyOf .lcdHR .rgb24 geq tg2 false true)
  | .lcdhr8 geq tg2 => .key (keyOf .lcdHR .rgb24 geq tg2 true true)
  | .lcdv geq tg2 s256 => .key (keyOf .lcdV .rgb24 geq tg2 s256 true)
  | .lcdvr geq tg2 s256 => .key (keyOf .lcdVR .rgb24 geq tg2 s256 true)
  | .errTgtMonoNone geq tg2 s256 sg2 => .key (keyOf .mono .none geq tg2 s256 sg2)
  | .errTgtMonoLcdH geq tg2 s256 sg2 => .key (keyOf .mono .lcdH geq tg2 s256 sg2)
  | .errTgtMonoLcdHR geq tg2 s256 sg2 => .key (keyOf .mono .lcdHR geq tg2 s256 sg2)
  | .errTgtMonoLcdV geq tg2 s256 sg2 => .key (keyOf .mono .lcdV geq tg2 s256 sg2)
  | .errTgtMonoLcdVR geq tg2 s256 sg2 => .key (keyOf .mono .lcdVR geq tg2 s256 sg2)
  | .errTgtMonoRsv13 geq tg2 s256 sg2 => .key (keyOf .mono .rsv13 geq tg2 s256 sg2)
  | .errTgtMonoRsv14 geq tg2 s256 sg2 => .key (keyOf .mono .rsv14 geq tg2 s256 sg2)
  | .errTgtMonoRsv15 geq tg2 s256 sg2 => .key (keyOf .mono .rsv15 geq tg2 s256 sg2)
  | .errTgtGrayNone geq tg2 s256 => .key (keyOf .gray .none geq tg2 s256 true)
  | .errTgtGrayMono geq tg2 s256 => .key (keyOf .gray .mono geq tg2 s256 true)
  | .errTgtGrayPal4 geq tg2 s256 => .key (keyOf .gray .pal4 geq tg2 s256 true)
  | .errTgtGrayPal8 geq tg2 s256 => .key (keyOf .gray .pal8 geq tg2 s256 true)
  | .errTgtGrayLcdH geq tg2 s256 => .key (keyOf .gray .lcdH geq tg2 s256 true)
  | .errTgtGrayLcdHR geq tg2 s256 => .key (keyOf .gray .lcdHR geq tg2 s256 true)
  | .errTgtGrayLcdV geq tg2 s256 => .key (keyOf .gray .lcdV geq tg2 s256 true)
  | .errTgtGrayLcdVR geq tg2 s256 => .key (keyOf .gray .lcdVR geq tg2 s256 true)
  | .errTgtGrayRsv13 geq tg2 s256 => .key (keyOf .gray .rsv13 geq tg2 s256 true)
  | .errTgtGrayRsv14 geq tg2 s256 => .key (keyOf .gray .rsv14 geq tg2 s256 true)
  | .errTgtGrayRsv15 geq tg2 s256 => .key (keyOf .gray .rsv15 geq tg2 s256 true)
  | .errTgtGrayBadcount geq s256 => .key (keyOf .gray .gray geq false s256 true)
  | .errArgGrayAny geq tg2 s256 tf => .key (keyOf .gray tf geq tg2 s256 false)
  | .errArgLcdHRgb24 geq tg2 s256 => .key (keyOf .lcdH .rgb24 geq tg2 s256 false)
  | .errArgLcdHRRgb24 geq tg2 s256 => .key (keyOf .lcdHR .rgb24 geq tg2 s256 false)
  | .errArgLcdVRgb24 geq tg2 s256 => .key (keyOf .lcdV .rgb24 geq tg2 s256 false)
  | .errArgLcdVRRgb24 geq tg2 s256 => .key (keyOf .lcdVR .rgb24 geq tg2 s256 false)
  | .noopLcdHNone geq tg2 s256 sg2 => .key (keyOf .lcdH .none geq tg2 s256 sg2)
  | .noopLcdHMono geq tg2 s256 sg2 => .key (keyOf .lcdH .mono geq tg2 s256 sg2)
  | .noopLcdHPal4 geq tg2 s256 sg2 => .key (keyOf .lcdH .pal4 geq tg2 s256 sg2)
  | .noopLcdHPal8 geq tg2 s256 sg2 => .key (keyOf .lcdH .pal8 geq tg2 s256 sg2)
  | .noopLcdHGray geq tg2 s256 sg2 => .key (keyOf .lcdH .gray geq tg2 s256 sg2)
  | .noopLcdHLcdH geq tg2 s256 sg2 => .key (keyOf .lcdH .lcdH geq tg2 s256 sg2)
  | .noopLcdHLcdHR geq tg2 s256 sg2 => .key (keyOf .lcdH .lcdHR geq tg2 s256 sg2)
  | .noopLcdHLcdV geq tg2 s256 sg2 => .key (keyOf .lcdH .lcdV geq tg2 s256 sg2)
  | .noopLcdHLcdVR geq tg2 s256 sg2 => .key (keyOf .lcdH .lcdVR geq tg2 s256 sg2)
  | .noopLcdHRgb555 geq tg2 s256 sg2 => .key (keyOf .lcdH .rgb555 geq tg2 s256 sg2)
  | .noopLcdHRgb565 geq tg2 s256 sg2 => .key (keyOf .lcdH .rgb565 geq tg2 s256 sg2)
  | .noopLcdHRgb32 geq tg2 s256 sg2 => .key (keyOf .lcdH .rgb32 geq tg2 s256 sg2)
  | .noopLcdHRsv13 geq tg2 s256 sg2 => .key (keyOf .lcdH .rsv13 geq tg2 s256 sg2)
  | .noopLcdHRsv14 geq tg2 s256 sg2 => .key (keyOf .lcdH .rsv14 geq tg2 s256 sg2)
  | .noopLcdHRsv15 geq tg2 s256 sg2 => .key (keyOf .lcdH .rsv15 geq tg2 s256 sg2)
  | .noopLcdHRNone geq tg2 s256 sg2 => .key (keyOf .lcdHR .none geq tg2 s256 sg2)
  | .noopLcdHRMono geq tg2 s256 sg2 => .key (keyOf .lcdHR .mono geq tg2 s256 sg2)
  | .noopLcdHRPal4 geq tg2 s256 sg2 => .key (keyOf .lcdHR .pal4 geq tg2 s256 sg2)
  | .noopLcdHRPal8 geq tg2 s256 sg2 => .key (keyOf .lcdHR .pal8 geq tg2 s256 sg2)
  | .noopLcdHRGray geq tg2 s256 sg2 => .key (keyOf .lcdHR .gray geq tg2 s256 sg2)
  | .noopLcdHRLcdH geq tg2 s256 sg2 => .key (keyOf .lcdHR .lcdH geq tg2 s256 sg2)
  | .noopLcdHRLcdHR geq tg2 s256 sg2 => .key (keyOf .lcdHR .lcdHR geq tg2 s256 sg2)
  | .noopLcdHRLcdV geq tg2 s256 sg2 => .key (keyOf .lcdHR .lcdV geq tg2 s256 sg2)
  | .noopLcdHRLcdVR geq tg2 s256 sg2 => .key (keyOf .lcdHR .lcdVR geq tg2 s256 sg2)
  | .noopLcdHRRgb555 geq tg2 s256 sg2 => .key (keyOf .lcdHR .rgb555 geq tg2 s256 sg2)
  | .noopLcdHRRgb565 geq tg2 s256 sg2 => .key (keyOf .lcdHR .rgb565 geq tg2 s256 sg2)
  | .noopLcdHRRgb32 geq tg2 s256 sg2 => .key (keyOf .lcdHR .rgb32 geq tg2 s256 sg2)
  | .noopLcdHRRsv13 geq tg2 s256 sg2 => .key (keyOf .lcdHR .rsv13 geq tg2 s256 sg2)
  | .noopLcdHRRsv14 geq tg2 s256 sg2 => .key (keyOf .lcdHR .rsv14 geq tg2 s256 sg2)
  | .noopLcdHRRsv15 geq tg2 s256 sg2 => .key (keyOf .lcdHR .rsv15 geq tg2 s256 sg2)
  | .noopLcdVNone geq tg2 s256 sg2 => .key (keyOf .lcdV .none geq tg2 s256 sg2)
  | .noopLcdVMono geq tg2 s256 sg2 => .key (keyOf .lcdV .mono geq tg2 s256 sg2)
  | .noopLcdVPal4 geq tg2 s256 sg2 => .key (keyOf .lcdV .pal4 geq tg2 s256 sg2)
  | .noopLcdVPal8 geq tg2 s256 sg2 => .key (keyOf .lcdV .pal8 geq tg2 s256 sg2)
  | .noopLcdVGray geq tg2 s256 sg2 => .key (keyOf .lcdV .gray geq tg2 s256 sg2)
  | .noopLcdVLcdH geq tg2 s256 sg2 => .key (keyOf .lcdV .lcdH geq tg2 s256 sg2)
  | .noopLcdVLcdHR geq tg2 s256 sg2 => .key (keyOf .lcdV .lcdHR geq tg2 s256 sg2)
  | .noopLcdVLcdV geq tg2 s256 sg2 => .key (keyOf .lcdV .lcdV geq tg2 s256 sg2)
  | .noopLcdVLcdVR geq tg2 s256 sg2 => .key (keyOf .lcdV .lcdVR geq tg2 s256 sg2)
  | .noopLcdVRgb555 geq tg2 s256 sg2 => .key (keyOf .lcdV .rgb555 geq tg2 s256 sg2)
  | .noopLcdVRgb565 geq tg2 s256 sg2 => .key (keyOf .lcdV .rgb565 geq tg2 s256 sg2)
  | .noopLcdVRgb32 geq tg2 s256 sg2 => .key (keyOf .lcdV .rgb32 geq tg2 s256 sg2)
  | .noopLcdVRsv13 geq tg2 s256 sg2 => .key (keyOf .lcdV .rsv13 geq tg2 s256 sg2)
  | .noopLcdVRsv14 geq tg2 s256 sg2 => .key (keyOf .lcdV .rsv14 geq tg2 s256 sg2)
  | .noopLcdVRsv15 geq tg2 s256 sg2 => .key (keyOf .lcdV .rsv15 geq tg2 s256 sg2)
  | .noopLcdVRNone geq tg2 s256 sg2 => .key (keyOf .lcdVR .none geq tg2 s256 sg2)
  | .noopLcdVRMono geq tg2 s256 sg2 => .key (keyOf .lcdVR .mono geq tg2 s256 sg2)
  | .noopLcdVRPal4 geq tg2 s256 sg2 => .key (keyOf .lcdVR .pal4 geq tg2 s256 sg2)
  | .noopLcdVRPal8 geq tg2 s256 sg2 => .key (keyOf .lcdVR .pal8 geq tg2 s256 sg2)
  | .noopLcdVRGray geq tg2 s256 sg2 => .key (keyOf .lcdVR .gray geq tg2 s256 sg2)
  | .noopLcdVRLcdH geq tg2 s256 sg2 => .key (keyOf .lcdVR .lcdH geq tg2 s256 sg2)
  | .noopLcdVRLcdHR geq tg2 s256 sg2 => .key (keyOf .lcdVR .lcdHR geq tg2 s256 sg2)
  | .noopLcdVRLcdV geq tg2 s256 sg2 => .key (keyOf .lcdVR .lcdV geq tg2 s256 sg2)
  | .noopLcdVRLcdVR geq tg2 s256 sg2 => .key (keyOf .lcdVR .lcdVR geq tg2 s256 sg2)
  | .noopLcdVRRgb555 geq tg2 s256 sg2 => .key (keyOf .lcdVR .rgb555 geq tg2 s256 sg2)
  | .noopLcdVRRgb565 geq tg2 s256 sg2 => .key (keyOf .lcdVR .rgb565 geq tg2 s256 sg2)
  | .noopLcdVRRgb32 geq tg2 s256 sg2 => .key (keyOf .lcdVR .rgb32 geq tg2 s256 sg2)
  | .noopLcdVRRsv13 geq tg2 s256 sg2 => .key (keyOf .lcdVR .rsv13 geq tg2 s256 sg2)
  | .noopLcdVRRsv14 geq tg2 s256 sg2 => .key (keyOf .lcdVR .rsv14 geq tg2 s256 sg2)
  | .noopLcdVRRsv15 geq tg2 s256 sg2 => .key (keyOf .lcdVR .rsv15 geq tg2 s256 sg2)
  | .errSrcNoneAny geq tg2 s256 sg2 tf => .key (keyOf .none tf geq tg2 s256 sg2)
  | .errSrcPal4Any geq tg2 s256 sg2 tf => .key (keyOf .pal4 tf geq tg2 s256 sg2)
  | .errSrcPal8Any geq tg2 s256 sg2 tf => .key (keyOf .pal8 tf geq tg2 s256 sg2)
  | .errSrcRgb555Any geq tg2 s256 sg2 tf => .key (keyOf .rgb555 tf geq tg2 s256 sg2)
  | .errSrcRgb565Any geq tg2 s256 sg2 tf => .key (keyOf .rgb565 tf geq tg2 s256 sg2)
  | .errSrcRgb24Any geq tg2 s256 sg2 tf => .key (keyOf .rgb24 tf geq tg2 s256 sg2)
  | .errSrcRgb32Any geq tg2 s256 sg2 tf => .key (keyOf .rgb32 tf geq tg2 s256 sg2)
  | .errSrcRsv13Any geq tg2 s256 sg2 tf => .key (keyOf .rsv13 tf geq tg2 s256 sg2)
  | .errSrcRsv14Any geq tg2 s256 sg2 tf => .key (keyOf .rsv14 tf geq tg2 s256 sg2)
  | .errSrcRsv15Any geq tg2 s256 sg2 tf => .key (keyOf .rsv15 tf geq tg2 s256 sg2)
  | .start rsv => .ctrl (rsv ++ 1#1)

/-- The instruction the decoder reads from `w`: 16-bit words are dispatch keys, 32-bit words are words written to
`CTRL` (spec/opcode_table.json formats KEY16 and CTRL32). -/
def decodeTableWord (nbits w : Nat) : Option Instr :=
  match nbits with
  | 16 => (decode (.key (BitVec.ofNat 16 w))).toOption
  | 32 => (decode (.ctrl (BitVec.ofNat 32 w))).toOption
  | _ => none

/-- One row of the dispatch table as 30_encoding.md R101 gives it: a key selects the row when its masked bits are
the match. -/
structure KeyRow where
  mnemonic : String
  mask : Key
  pattern : Key
  deriving DecidableEq, Repr

/-- A key selects a row (30_encoding.md R101). -/
def KeyRow.selects (r : KeyRow) (k : Key) : Bool := k &&& r.mask == r.pattern

/-- Rows of the dispatch table: monochrome OR-blit (41_mono.md). -/
def monoRows : List KeyRow :=
  [ ⟨"M2M", 0xF0FF, 0x0011⟩
  , ⟨"M2P4", 0xF0FF, 0x0021⟩
  , ⟨"M2P8", 0xF0FF, 0x0031⟩
  , ⟨"M2G8", 0xF0FF, 0x0041⟩
  , ⟨"M2R555", 0xF0FF, 0x0091⟩
  , ⟨"M2R565", 0xF0FF, 0x00A1⟩
  , ⟨"M2R24", 0xF0FF, 0x00B1⟩
  , ⟨"M2R32", 0xF0FF, 0x00C1⟩ ]

/-- Rows of the dispatch table: gray blend, general law (42_gray.md). -/
def grayGeneralRows : List KeyRow :=
  [ ⟨"G2R555", 0xF3FF, 0x0194⟩
  , ⟨"G2R565", 0xF3FF, 0x01A4⟩
  , ⟨"G2R24", 0xF3FF, 0x01B4⟩
  , ⟨"G2R32", 0xF3FF, 0x01C4⟩ ]

/-- Rows of the dispatch table: gray blend, 256-level fast law (42_gray.md). -/
def grayFastRows : List KeyRow :=
  [ ⟨"G8R555", 0xF3FF, 0x0394⟩
  , ⟨"G8R565", 0xF3FF, 0x03A4⟩
  , ⟨"G8R24", 0xF3FF, 0x03B4⟩
  , ⟨"G8R32", 0xF3FF, 0x03C4⟩ ]

/-- Rows of the dispatch table: gray into gray (42_gray.md). -/
def grayIntoGrayRows : List KeyRow :=
  [ ⟨"G2G_SAME", 0xFDFF, 0x0D44⟩
  , ⟨"G2G_CONV", 0xFDFF, 0x0544⟩ ]

/-- Rows of the dispatch table: LCD subpixel blend (43_lcd.md). -/
def lcdRows : List KeyRow :=
  [ ⟨"LCDH", 0xF3FF, 0x01B5⟩
  , ⟨"LCDH8", 0xF3FF, 0x03B5⟩
  , ⟨"LCDHR", 0xF3FF, 0x01B6⟩
  , ⟨"LCDHR8", 0xF3FF, 0x03B6⟩
  , ⟨"LCDV", 0xF1FF, 0x01B7⟩
  , ⟨"LCDVR", 0xF1FF, 0x01B8⟩ ]

/-- Rows of the dispatch table: unsupported target depth (45_dispatch.md R255). -/
def errTgtMonoRows : List KeyRow :=
  [ ⟨"ERR_TGT.MONO.NONE", 0xF0FF, 0x0001⟩
  , ⟨"ERR_TGT.MONO.LCD_H", 0xF0FF, 0x0051⟩
  , ⟨"ERR_TGT.MONO.LCD_HR", 0xF0FF, 0x0061⟩
  , ⟨"ERR_TGT.MONO.LCD_V", 0xF0FF, 0x0071⟩
  , ⟨"ERR_TGT.MONO.LCD_VR", 0xF0FF, 0x0081⟩
  , ⟨"ERR_TGT.MONO.RSV13", 0xF0FF, 0x00D1⟩
  , ⟨"ERR_TGT.MONO.RSV14", 0xF0FF, 0x00E1⟩
  , ⟨"ERR_TGT.MONO.RSV15", 0xF0FF, 0x00F1⟩ ]

/-- Rows of the dispatch table: unsupported target depth (45_dispatch.md R255). -/
def errTgtGrayRows : List KeyRow :=
  [ ⟨"ERR_TGT.GRAY.NONE", 0xF1FF, 0x0104⟩
  , ⟨"ERR_TGT.GRAY.MONO", 0xF1FF, 0x0114⟩
  , ⟨"ERR_TGT.GRAY.PAL4", 0xF1FF, 0x0124⟩
  , ⟨"ERR_TGT.GRAY.PAL8", 0xF1FF, 0x0134⟩
  , ⟨"ERR_TGT.GRAY.LCD_H", 0xF1FF, 0x0154⟩
  , ⟨"ERR_TGT.GRAY.LCD_HR", 0xF1FF, 0x0164⟩
  , ⟨"ERR_TGT.GRAY.LCD_V", 0xF1FF, 0x0174⟩
  , ⟨"ERR_TGT.GRAY.LCD_VR", 0xF1FF, 0x0184⟩
  , ⟨"ERR_TGT.GRAY.RSV13", 0xF1FF, 0x01D4⟩
  , ⟨"ERR_TGT.GRAY.RSV14", 0xF1FF, 0x01E4⟩
  , ⟨"ERR_TGT.GRAY.RSV15", 0xF1FF, 0x01F4⟩
  , ⟨"ERR_TGT.GRAY_BADCOUNT", 0xF5FF, 0x0144⟩ ]

/-- Rows of the dispatch table: invalid gray-level count (45_dispatch.md R256). -/
def errArgRows : List KeyRow :=
  [ ⟨"ERR_ARG.GRAY.ANY", 0xF10F, 0x0004⟩
  , ⟨"ERR_ARG.LCD_H.RGB24", 0xF1FF, 0x00B5⟩
  , ⟨"ERR_ARG.LCD_HR.RGB24", 0xF1FF, 0x00B6⟩
  , ⟨"ERR_ARG.LCD_V.RGB24", 0xF1FF, 0x00B7⟩
  , ⟨"ERR_ARG.LCD_VR.RGB24", 0xF1FF, 0x00B8⟩ ]

/-- Rows of the dispatch table: LCD source, target not RGB24: nothing to draw (45_dispatch.md R257). -/
def noopLcdRowsH : List KeyRow :=
  [ ⟨"NOOP_LCD.LCD_H.NONE", 0xF0FF, 0x0005⟩
  , ⟨"NOOP_LCD.LCD_H.MONO", 0xF0FF, 0x0015⟩
  , ⟨"NOOP_LCD.LCD_H.PAL4", 0xF0FF, 0x0025⟩
  , ⟨"NOOP_LCD.LCD_H.PAL8", 0xF0FF, 0x0035⟩
  , ⟨"NOOP_LCD.LCD_H.GRAY", 0xF0FF, 0x0045⟩
  , ⟨"NOOP_LCD.LCD_H.LCD_H", 0xF0FF, 0x0055⟩
  , ⟨"NOOP_LCD.LCD_H.LCD_HR", 0xF0FF, 0x0065⟩
  , ⟨"NOOP_LCD.LCD_H.LCD_V", 0xF0FF, 0x0075⟩
  , ⟨"NOOP_LCD.LCD_H.LCD_VR", 0xF0FF, 0x0085⟩
  , ⟨"NOOP_LCD.LCD_H.RGB555", 0xF0FF, 0x0095⟩
  , ⟨"NOOP_LCD.LCD_H.RGB565", 0xF0FF, 0x00A5⟩
  , ⟨"NOOP_LCD.LCD_H.RGB32", 0xF0FF, 0x00C5⟩
  , ⟨"NOOP_LCD.LCD_H.RSV13", 0xF0FF, 0x00D5⟩
  , ⟨"NOOP_LCD.LCD_H.RSV14", 0xF0FF, 0x00E5⟩
  , ⟨"NOOP_LCD.LCD_H.RSV15", 0xF0FF, 0x00F5⟩ ]

/-- Rows of the dispatch table: LCD source, target not RGB24: nothing to draw (45_dispatch.md R257). -/
def noopLcdRowsHR : List KeyRow :=
  [ ⟨"NOOP_LCD.LCD_HR.NONE", 0xF0FF, 0x0006⟩
  , ⟨"NOOP_LCD.LCD_HR.MONO", 0xF0FF, 0x0016⟩
  , ⟨"NOOP_LCD.LCD_HR.PAL4", 0xF0FF, 0x0026⟩
  , ⟨"NOOP_LCD.LCD_HR.PAL8", 0xF0FF, 0x0036⟩
  , ⟨"NOOP_LCD.LCD_HR.GRAY", 0xF0FF, 0x0046⟩
  , ⟨"NOOP_LCD.LCD_HR.LCD_H", 0xF0FF, 0x0056⟩
  , ⟨"NOOP_LCD.LCD_HR.LCD_HR", 0xF0FF, 0x0066⟩
  , ⟨"NOOP_LCD.LCD_HR.LCD_V", 0xF0FF, 0x0076⟩
  , ⟨"NOOP_LCD.LCD_HR.LCD_VR", 0xF0FF, 0x0086⟩
  , ⟨"NOOP_LCD.LCD_HR.RGB555", 0xF0FF, 0x0096⟩
  , ⟨"NOOP_LCD.LCD_HR.RGB565", 0xF0FF, 0x00A6⟩
  , ⟨"NOOP_LCD.LCD_HR.RGB32", 0xF0FF, 0x00C6⟩
  , ⟨"NOOP_LCD.LCD_HR.RSV13", 0xF0FF, 0x00D6⟩
  , ⟨"NOOP_LCD.LCD_HR.RSV14", 0xF0FF, 0x00E6⟩
  , ⟨"NOOP_LCD.LCD_HR.RSV15", 0xF0FF, 0x00F6⟩ ]

/-- Rows of the dispatch table: LCD source, target not RGB24: nothing to draw (45_dispatch.md R257). -/
def noopLcdRowsV : List KeyRow :=
  [ ⟨"NOOP_LCD.LCD_V.NONE", 0xF0FF, 0x0007⟩
  , ⟨"NOOP_LCD.LCD_V.MONO", 0xF0FF, 0x0017⟩
  , ⟨"NOOP_LCD.LCD_V.PAL4", 0xF0FF, 0x0027⟩
  , ⟨"NOOP_LCD.LCD_V.PAL8", 0xF0FF, 0x0037⟩
  , ⟨"NOOP_LCD.LCD_V.GRAY", 0xF0FF, 0x0047⟩
  , ⟨"NOOP_LCD.LCD_V.LCD_H", 0xF0FF, 0x0057⟩
  , ⟨"NOOP_LCD.LCD_V.LCD_HR", 0xF0FF, 0x0067⟩
  , ⟨"NOOP_LCD.LCD_V.LCD_V", 0xF0FF, 0x0077⟩
  , ⟨"NOOP_LCD.LCD_V.LCD_VR", 0xF0FF, 0x0087⟩
  , ⟨"NOOP_LCD.LCD_V.RGB555", 0xF0FF, 0x0097⟩
  , ⟨"NOOP_LCD.LCD_V.RGB565", 0xF0FF, 0x00A7⟩
  , ⟨"NOOP_LCD.LCD_V.RGB32", 0xF0FF, 0x00C7⟩
  , ⟨"NOOP_LCD.LCD_V.RSV13", 0xF0FF, 0x00D7⟩
  , ⟨"NOOP_LCD.LCD_V.RSV14", 0xF0FF, 0x00E7⟩
  , ⟨"NOOP_LCD.LCD_V.RSV15", 0xF0FF, 0x00F7⟩ ]

/-- Rows of the dispatch table: LCD source, target not RGB24: nothing to draw (45_dispatch.md R257). -/
def noopLcdRowsVR : List KeyRow :=
  [ ⟨"NOOP_LCD.LCD_VR.NONE", 0xF0FF, 0x0008⟩
  , ⟨"NOOP_LCD.LCD_VR.MONO", 0xF0FF, 0x0018⟩
  , ⟨"NOOP_LCD.LCD_VR.PAL4", 0xF0FF, 0x0028⟩
  , ⟨"NOOP_LCD.LCD_VR.PAL8", 0xF0FF, 0x0038⟩
  , ⟨"NOOP_LCD.LCD_VR.GRAY", 0xF0FF, 0x0048⟩
  , ⟨"NOOP_LCD.LCD_VR.LCD_H", 0xF0FF, 0x0058⟩
  , ⟨"NOOP_LCD.LCD_VR.LCD_HR", 0xF0FF, 0x0068⟩
  , ⟨"NOOP_LCD.LCD_VR.LCD_V", 0xF0FF, 0x0078⟩
  , ⟨"NOOP_LCD.LCD_VR.LCD_VR", 0xF0FF, 0x0088⟩
  , ⟨"NOOP_LCD.LCD_VR.RGB555", 0xF0FF, 0x0098⟩
  , ⟨"NOOP_LCD.LCD_VR.RGB565", 0xF0FF, 0x00A8⟩
  , ⟨"NOOP_LCD.LCD_VR.RGB32", 0xF0FF, 0x00C8⟩
  , ⟨"NOOP_LCD.LCD_VR.RSV13", 0xF0FF, 0x00D8⟩
  , ⟨"NOOP_LCD.LCD_VR.RSV14", 0xF0FF, 0x00E8⟩
  , ⟨"NOOP_LCD.LCD_VR.RSV15", 0xF0FF, 0x00F8⟩ ]

/-- Rows of the dispatch table: unsupported source depth (45_dispatch.md R254). -/
def errSrcRows : List KeyRow :=
  [ ⟨"ERR_SRC.NONE.ANY", 0xF00F, 0x0000⟩
  , ⟨"ERR_SRC.PAL4.ANY", 0xF00F, 0x0002⟩
  , ⟨"ERR_SRC.PAL8.ANY", 0xF00F, 0x0003⟩
  , ⟨"ERR_SRC.RGB555.ANY", 0xF00F, 0x0009⟩
  , ⟨"ERR_SRC.RGB565.ANY", 0xF00F, 0x000A⟩
  , ⟨"ERR_SRC.RGB24.ANY", 0xF00F, 0x000B⟩
  , ⟨"ERR_SRC.RGB32.ANY", 0xF00F, 0x000C⟩
  , ⟨"ERR_SRC.RSV13.ANY", 0xF00F, 0x000D⟩
  , ⟨"ERR_SRC.RSV14.ANY", 0xF00F, 0x000E⟩
  , ⟨"ERR_SRC.RSV15.ANY", 0xF00F, 0x000F⟩ ]

/-- The dispatch table (30_encoding.md R104), every KEY16 row. -/
def dispatchTable : List KeyRow :=
  monoRows ++ grayGeneralRows ++ grayFastRows ++ grayIntoGrayRows ++ lcdRows ++ errTgtMonoRows ++ errTgtGrayRows ++
  errArgRows ++ noopLcdRowsH ++ noopLcdRowsHR ++ noopLcdRowsV ++ noopLcdRowsVR ++ errSrcRows

/-- The mnemonic of an instruction, as spec/opcode_table.json spells it. -/
def Instr.mnemonic : Instr → String
  | .m2m _ _ _ _ => "M2M"
  | .m2p4 _ _ _ _ => "M2P4"
  | .m2p8 _ _ _ _ => "M2P8"
  | .m2g8 _ _ _ _ => "M2G8"
  | .m2r555 _ _ _ _ => "M2R555"
  | .m2r565 _ _ _ _ => "M2R565"
  | .m2r24 _ _ _ _ => "M2R24"
  | .m2r32 _ _ _ _ => "M2R32"
  | .g2r555 _ _ => "G2R555"
  | .g2r565 _ _ => "G2R565"
  | .g2r24 _ _ => "G2R24"
  | .g2r32 _ _ => "G2R32"
  | .g8r555 _ _ => "G8R555"
  | .g8r565 _ _ => "G8R565"
  | .g8r24 _ _ => "G8R24"
  | .g8r32 _ _ => "G8R32"
  | .g2gSame _ => "G2G_SAME"
  | .g2gConv _ => "G2G_CONV"
  | .lcdh _ _ => "LCDH"
  | .lcdh8 _ _ => "LCDH8"
  | .lcdhr _ _ => "LCDHR"
  | .lcdhr8 _ _ => "LCDHR8"
  | .lcdv _ _ _ => "LCDV"
  | .lcdvr _ _ _ => "LCDVR"
  | .errTgtMonoNone _ _ _ _ => "ERR_TGT.MONO.NONE"
  | .errTgtMonoLcdH _ _ _ _ => "ERR_TGT.MONO.LCD_H"
  | .errTgtMonoLcdHR _ _ _ _ => "ERR_TGT.MONO.LCD_HR"
  | .errTgtMonoLcdV _ _ _ _ => "ERR_TGT.MONO.LCD_V"
  | .errTgtMonoLcdVR _ _ _ _ => "ERR_TGT.MONO.LCD_VR"
  | .errTgtMonoRsv13 _ _ _ _ => "ERR_TGT.MONO.RSV13"
  | .errTgtMonoRsv14 _ _ _ _ => "ERR_TGT.MONO.RSV14"
  | .errTgtMonoRsv15 _ _ _ _ => "ERR_TGT.MONO.RSV15"
  | .errTgtGrayNone _ _ _ => "ERR_TGT.GRAY.NONE"
  | .errTgtGrayMono _ _ _ => "ERR_TGT.GRAY.MONO"
  | .errTgtGrayPal4 _ _ _ => "ERR_TGT.GRAY.PAL4"
  | .errTgtGrayPal8 _ _ _ => "ERR_TGT.GRAY.PAL8"
  | .errTgtGrayLcdH _ _ _ => "ERR_TGT.GRAY.LCD_H"
  | .errTgtGrayLcdHR _ _ _ => "ERR_TGT.GRAY.LCD_HR"
  | .errTgtGrayLcdV _ _ _ => "ERR_TGT.GRAY.LCD_V"
  | .errTgtGrayLcdVR _ _ _ => "ERR_TGT.GRAY.LCD_VR"
  | .errTgtGrayRsv13 _ _ _ => "ERR_TGT.GRAY.RSV13"
  | .errTgtGrayRsv14 _ _ _ => "ERR_TGT.GRAY.RSV14"
  | .errTgtGrayRsv15 _ _ _ => "ERR_TGT.GRAY.RSV15"
  | .errTgtGrayBadcount _ _ => "ERR_TGT.GRAY_BADCOUNT"
  | .errArgGrayAny _ _ _ _ => "ERR_ARG.GRAY.ANY"
  | .errArgLcdHRgb24 _ _ _ => "ERR_ARG.LCD_H.RGB24"
  | .errArgLcdHRRgb24 _ _ _ => "ERR_ARG.LCD_HR.RGB24"
  | .errArgLcdVRgb24 _ _ _ => "ERR_ARG.LCD_V.RGB24"
  | .errArgLcdVRRgb24 _ _ _ => "ERR_ARG.LCD_VR.RGB24"
  | .noopLcdHNone _ _ _ _ => "NOOP_LCD.LCD_H.NONE"
  | .noopLcdHMono _ _ _ _ => "NOOP_LCD.LCD_H.MONO"
  | .noopLcdHPal4 _ _ _ _ => "NOOP_LCD.LCD_H.PAL4"
  | .noopLcdHPal8 _ _ _ _ => "NOOP_LCD.LCD_H.PAL8"
  | .noopLcdHGray _ _ _ _ => "NOOP_LCD.LCD_H.GRAY"
  | .noopLcdHLcdH _ _ _ _ => "NOOP_LCD.LCD_H.LCD_H"
  | .noopLcdHLcdHR _ _ _ _ => "NOOP_LCD.LCD_H.LCD_HR"
  | .noopLcdHLcdV _ _ _ _ => "NOOP_LCD.LCD_H.LCD_V"
  | .noopLcdHLcdVR _ _ _ _ => "NOOP_LCD.LCD_H.LCD_VR"
  | .noopLcdHRgb555 _ _ _ _ => "NOOP_LCD.LCD_H.RGB555"
  | .noopLcdHRgb565 _ _ _ _ => "NOOP_LCD.LCD_H.RGB565"
  | .noopLcdHRgb32 _ _ _ _ => "NOOP_LCD.LCD_H.RGB32"
  | .noopLcdHRsv13 _ _ _ _ => "NOOP_LCD.LCD_H.RSV13"
  | .noopLcdHRsv14 _ _ _ _ => "NOOP_LCD.LCD_H.RSV14"
  | .noopLcdHRsv15 _ _ _ _ => "NOOP_LCD.LCD_H.RSV15"
  | .noopLcdHRNone _ _ _ _ => "NOOP_LCD.LCD_HR.NONE"
  | .noopLcdHRMono _ _ _ _ => "NOOP_LCD.LCD_HR.MONO"
  | .noopLcdHRPal4 _ _ _ _ => "NOOP_LCD.LCD_HR.PAL4"
  | .noopLcdHRPal8 _ _ _ _ => "NOOP_LCD.LCD_HR.PAL8"
  | .noopLcdHRGray _ _ _ _ => "NOOP_LCD.LCD_HR.GRAY"
  | .noopLcdHRLcdH _ _ _ _ => "NOOP_LCD.LCD_HR.LCD_H"
  | .noopLcdHRLcdHR _ _ _ _ => "NOOP_LCD.LCD_HR.LCD_HR"
  | .noopLcdHRLcdV _ _ _ _ => "NOOP_LCD.LCD_HR.LCD_V"
  | .noopLcdHRLcdVR _ _ _ _ => "NOOP_LCD.LCD_HR.LCD_VR"
  | .noopLcdHRRgb555 _ _ _ _ => "NOOP_LCD.LCD_HR.RGB555"
  | .noopLcdHRRgb565 _ _ _ _ => "NOOP_LCD.LCD_HR.RGB565"
  | .noopLcdHRRgb32 _ _ _ _ => "NOOP_LCD.LCD_HR.RGB32"
  | .noopLcdHRRsv13 _ _ _ _ => "NOOP_LCD.LCD_HR.RSV13"
  | .noopLcdHRRsv14 _ _ _ _ => "NOOP_LCD.LCD_HR.RSV14"
  | .noopLcdHRRsv15 _ _ _ _ => "NOOP_LCD.LCD_HR.RSV15"
  | .noopLcdVNone _ _ _ _ => "NOOP_LCD.LCD_V.NONE"
  | .noopLcdVMono _ _ _ _ => "NOOP_LCD.LCD_V.MONO"
  | .noopLcdVPal4 _ _ _ _ => "NOOP_LCD.LCD_V.PAL4"
  | .noopLcdVPal8 _ _ _ _ => "NOOP_LCD.LCD_V.PAL8"
  | .noopLcdVGray _ _ _ _ => "NOOP_LCD.LCD_V.GRAY"
  | .noopLcdVLcdH _ _ _ _ => "NOOP_LCD.LCD_V.LCD_H"
  | .noopLcdVLcdHR _ _ _ _ => "NOOP_LCD.LCD_V.LCD_HR"
  | .noopLcdVLcdV _ _ _ _ => "NOOP_LCD.LCD_V.LCD_V"
  | .noopLcdVLcdVR _ _ _ _ => "NOOP_LCD.LCD_V.LCD_VR"
  | .noopLcdVRgb555 _ _ _ _ => "NOOP_LCD.LCD_V.RGB555"
  | .noopLcdVRgb565 _ _ _ _ => "NOOP_LCD.LCD_V.RGB565"
  | .noopLcdVRgb32 _ _ _ _ => "NOOP_LCD.LCD_V.RGB32"
  | .noopLcdVRsv13 _ _ _ _ => "NOOP_LCD.LCD_V.RSV13"
  | .noopLcdVRsv14 _ _ _ _ => "NOOP_LCD.LCD_V.RSV14"
  | .noopLcdVRsv15 _ _ _ _ => "NOOP_LCD.LCD_V.RSV15"
  | .noopLcdVRNone _ _ _ _ => "NOOP_LCD.LCD_VR.NONE"
  | .noopLcdVRMono _ _ _ _ => "NOOP_LCD.LCD_VR.MONO"
  | .noopLcdVRPal4 _ _ _ _ => "NOOP_LCD.LCD_VR.PAL4"
  | .noopLcdVRPal8 _ _ _ _ => "NOOP_LCD.LCD_VR.PAL8"
  | .noopLcdVRGray _ _ _ _ => "NOOP_LCD.LCD_VR.GRAY"
  | .noopLcdVRLcdH _ _ _ _ => "NOOP_LCD.LCD_VR.LCD_H"
  | .noopLcdVRLcdHR _ _ _ _ => "NOOP_LCD.LCD_VR.LCD_HR"
  | .noopLcdVRLcdV _ _ _ _ => "NOOP_LCD.LCD_VR.LCD_V"
  | .noopLcdVRLcdVR _ _ _ _ => "NOOP_LCD.LCD_VR.LCD_VR"
  | .noopLcdVRRgb555 _ _ _ _ => "NOOP_LCD.LCD_VR.RGB555"
  | .noopLcdVRRgb565 _ _ _ _ => "NOOP_LCD.LCD_VR.RGB565"
  | .noopLcdVRRgb32 _ _ _ _ => "NOOP_LCD.LCD_VR.RGB32"
  | .noopLcdVRRsv13 _ _ _ _ => "NOOP_LCD.LCD_VR.RSV13"
  | .noopLcdVRRsv14 _ _ _ _ => "NOOP_LCD.LCD_VR.RSV14"
  | .noopLcdVRRsv15 _ _ _ _ => "NOOP_LCD.LCD_VR.RSV15"
  | .errSrcNoneAny _ _ _ _ _ => "ERR_SRC.NONE.ANY"
  | .errSrcPal4Any _ _ _ _ _ => "ERR_SRC.PAL4.ANY"
  | .errSrcPal8Any _ _ _ _ _ => "ERR_SRC.PAL8.ANY"
  | .errSrcRgb555Any _ _ _ _ _ => "ERR_SRC.RGB555.ANY"
  | .errSrcRgb565Any _ _ _ _ _ => "ERR_SRC.RGB565.ANY"
  | .errSrcRgb24Any _ _ _ _ _ => "ERR_SRC.RGB24.ANY"
  | .errSrcRgb32Any _ _ _ _ _ => "ERR_SRC.RGB32.ANY"
  | .errSrcRsv13Any _ _ _ _ _ => "ERR_SRC.RSV13.ANY"
  | .errSrcRsv14Any _ _ _ _ _ => "ERR_SRC.RSV14.ANY"
  | .errSrcRsv15Any _ _ _ _ _ => "ERR_SRC.RSV15.ANY"
  | .start _ => "START"

end Sys2Proof
end

