-- ==== Sys2Proof/Config.lean ====
section
/-! DEFINITION. What an implementation fixes (the parameters of 00_scope.md R3) and the values the spec leaves free
(`draw any`, 00_scope.md R7 and 93_implementation_defined.md). -/

namespace Sys2Proof

/-- The named parameters of 00_scope.md R3. The spec says the model takes them as arguments: a State carries them,
no step changes them, and a statement about every state holds for every value of them. -/
structure Params where
  /-- `ADDR_W`: width in bits of a memory address. -/
  addrW : Nat
  /-- `SAT_CAP`: the most saturation tables the cache holds. -/
  satCap : Nat
  /-- `CONV_CAP`: the most conversion tables the cache holds. -/
  convCap : Nat
  /-- `REG_BASE`: platform address of the register block. -/
  regBase : Nat
  /-- `MemAdmit`: the admitted byte addresses, as ranges `lo ≤ a < hi`. The memory space is finite, so every
  predicate on it is such a list. -/
  memAdmit : List (Nat × Nat)
  deriving DecidableEq, Repr

/-- The legal values of 00_scope.md R3. -/
def Params.legal (p : Params) : Bool :=
  1 ≤ p.addrW && p.addrW ≤ 32 && 1 ≤ p.satCap && p.satCap ≤ 255 && 1 ≤ p.convCap && p.convCap ≤ 255

namespace Config

/-- The parameter values State.reset carries. `ADDR_W = 32` is R3's own value.
DESIGN CHOICE (unsafe, log entry 2): the others are open in R3; these are the conventions of 95_test_vectors.md
(both caps 4, every address admitted) and `REG_BASE = 0`. -/
def params : Params :=
  { addrW := 32, satCap := 4, convCap := 4, regBase := 0, memAdmit := [(0, 2 ^ 32)] }

/-- The `n`-th free byte (`draw any`, R7). It has no body, so nothing can be proved of its value. Log entry 4. -/
opaque freeByte : Nat → Byte

/-- The `n`-th free choice between two values (70_reset_and_hazards.md R302). No body either. Log entry 7. -/
opaque freeChoice : Nat → Bool

end Config

end Sys2Proof
end

