-- ==== Sys2Proof/Machine/State.lean ====
section
/-! DEFINITION. The machine's state as plain data (spec 10_state.md R20 to R41), the ways a step stops, and the state
after reset (70_reset_and_hazards.md R290). -/

namespace Sys2Proof.Machine

/-- The command state (10_state.md R38). -/
inductive Phase where
  | idle
  | busy
  deriving DecidableEq, Repr

/-- The error kinds of `STATUS.KIND` (10_state.md R23, 30_encoding.md R93). -/
inductive ErrorKind where
  | none
  | argument
  | targetDepth
  | sourceDepth
  | tableCache
  deriving DecidableEq, Repr

/-- The stored fields of `STATUS` (10_state.md R23). `BUSY` is not stored: it is `phase = BUSY` (R38). -/
structure Status where
  done : Bool
  noop : Bool
  code : BitVec 8
  kind : ErrorKind
  path : BitVec 5
  deriving DecidableEq, Repr

/-- The host-writable registers (10_state.md R24, R26 to R32). -/
structure Regs where
  lastError : Word
  srcBase : Word
  srcPitch : Word
  srcSize : Word
  srcMode : Word
  tgtBase : Word
  tgtPitch : Word
  tgtSize : Word
  tgtMode : Word
  posX : Word
  posY : Word
  colorValue : Word
  colorChan : Word
  deriving DecidableEq, Repr

/-- The blit-context registers `CTX_*` (10_state.md R33). -/
structure Ctx where
  readX : Word
  readY : Word
  writeX : Word
  writeY : Word
  visW : Word
  visH : Word
  rightClip : Word
  key : Word
  deriving DecidableEq, Repr

/-- What the world outside the block does next (30_encoding.md R91, R108; 20_memory.md R72; 70_reset_and_hazards.md
R291), and whose turn it is. -/
inductive Event where
  /-- The unit's turn: it advances a command in progress. -/
  | unit
  /-- A write on the register port: platform address, size in bytes, word. -/
  | portWrite (addr bytes : Nat) (value : Word)
  /-- A read on the register port: platform address, size in bytes. -/
  | portRead (addr bytes : Nat)
  /-- `POLL`: read `STATUS` until `BUSY = 0` (30_encoding.md R108). -/
  | poll
  /-- The host writes one byte of memory. -/
  | memWrite (addr : Nat) (value : Byte)
  /-- The host reads one byte of memory. -/
  | memRead (addr : Nat)
  /-- The platform's reset input (70_reset_and_hazards.md R291). -/
  | reset
  deriving DecidableEq, Repr

/-- The machine's state: the parameters, what 10_state.md R20 lists, and the model's own fields. -/
structure State where
  /-- The parameters of 00_scope.md R3; no step changes them. -/
  params : Params
  /-- The host-writable registers. -/
  regs : Regs
  /-- `STATUS` but for `BUSY`. -/
  status : Status
  /-- The blit-context registers. -/
  ctx : Ctx
  /-- The keys of the saturation-table cache, oldest first (10_state.md R36). -/
  sat : List Count
  /-- The keys `(gt, gs)` of the conversion-table cache, oldest first (10_state.md R36). -/
  conv : List (Count × Count)
  /-- The command state (10_state.md R38). -/
  phase : Phase
  /-- Memory: the bytes that differ from what an unlisted address reads as, by rising address (20_memory.md R60). -/
  mem : List Host.Cell
  /-- The model's own: the context registers before the command in progress (70_reset_and_hazards.md R302). DESIGN
  CHOICE (unsafe, log entry 7). -/
  ctxBefore : Ctx
  /-- The model's own: the host has touched the spans of the command in progress (20_memory.md R76). DEDUCED (unsafe,
  log entry 8). -/
  disturbed : Bool
  /-- The model's own: what happens next, in order. DESIGN CHOICE (safe, log entry 5). -/
  schedule : List Event
  /-- The model's own: what the host's last register read returned. DESIGN CHOICE (unsafe, log entry 6). -/
  portData : Word
  /-- The model's own: what the host's last memory read returned. DESIGN CHOICE (unsafe, log entry 6). -/
  memData : Byte
  /-- The model's own: how many free values have been drawn (00_scope.md R7 `draw any`). DESIGN CHOICE
  (safe, log entry 4). -/
  draws : Nat
  deriving DecidableEq, Repr

/-- The faults: the run ends and no later state is defined. -/
inductive Fault where
  /-- 60_exceptions.md R276: the access set of the command holds an address the memory port refuses; `addr`
  is the lowest. Raised by the 24 kernels. The spec's own outcome: neither safe nor unsafe to keep. -/
  | busFault (addr : Int)
  /-- The host accesses a byte outside `0 .. 2^ADDR_W - 1`, which 20_memory.md R60 says does not exist. Raised by
  the host's memory events. Safe: the model stops where nothing is specified. Log entry 10. -/
  | noSuchMemory (addr : Nat)
  deriving DecidableEq, Repr

/-- The refusals: outside the model's domain. -/
inductive Refusal where
  /-- The instruction has no meaning yet. Raised by an arm of exec. Safe. -/
  | notModelled (mnemonic : String)
  /-- 30_encoding.md R91: not an aligned 32-bit access of the register block. Raised by the host's port events.
  Safe: the spec says the model refuses it. -/
  | registerPortAccess (addr bytes : Nat)
  /-- A key with bits 15:12 not 0, which 30_encoding.md R103 says is never formed. Raised by the unit's turn in
  states no command reaches. Safe. Log entry 11. -/
  | reservedKey (key : Key)
  deriving DecidableEq, Repr

/-- Every host-writable register 0 (10_state.md R41). -/
def Regs.zero : Regs := ⟨0, 0, 0, 0, 0, 0, 0, 0, 0, 0, 0, 0, 0⟩

/-- Every context register 0 (10_state.md R41). -/
def Ctx.zero : Ctx := ⟨0, 0, 0, 0, 0, 0, 0, 0⟩

/-- `STATUS = 0` (10_state.md R41). -/
def Status.zero : Status := ⟨false, false, 0, .none, 0⟩

/-- The state after reset of a block with parameters `p`, with nothing listed in memory and no event pending
(10_state.md R41, 70_reset_and_hazards.md R290). -/
def State.resetWith (p : Params) : State :=
  { params := p, regs := .zero, status := .zero, ctx := .zero, sat := [], conv := [], phase := .idle, mem := [],
    ctxBefore := .zero, disturbed := false, schedule := [], portData := 0, memData := 0, draws := 0 }

/-- The machine right after reset (10_state.md R41), with the parameters of `Config.params`. -/
def State.reset : State := .resetWith Config.params

end Sys2Proof.Machine
end

