-- ==== Sys2Proof/Machine/Ops.lean ====
section
/-! DEFINITION. The named operations: bytes of memory, admission, the canvas a kernel paints on, completion of a
command (60_exceptions.md R271, R272), table lookups (44_lut_cache.md R223). There is no trap entry and no trap
return in this block (60_exceptions.md R279, R280): an error only ends the command, by `raiseStatus`. -/

namespace Sys2Proof.Machine

/-- What a byte of memory that nothing has written reads as. DESIGN CHOICE (unsafe, log entry 3). -/
def unlistedByte : Byte := 0

/-- The byte at an address. -/
def Memory.read : List Host.Cell → Nat → Byte
  | [], _ => unlistedByte
  | (b, w) :: rest, a => if b = a then w else Memory.read rest a

/-- Memory with byte `v` at address `a`, in canonical form. -/
def Memory.write : List Host.Cell → Nat → Byte → List Host.Cell
  | [], a, v => if v = unlistedByte then [] else [(a, v)]
  | (b, w) :: rest, a, v =>
    if a < b then (if v = unlistedByte then (b, w) :: rest else (a, v) :: (b, w) :: rest)
    else if a = b then (if v = unlistedByte then rest else (a, v) :: rest)
    else (b, w) :: Memory.write rest a v

/-- The canonical form: addresses strictly rising, no entry equal to what an unlisted address reads as. -/
def Memory.wf : List Host.Cell → Bool
  | [] => true
  | [(_, w)] => w != unlistedByte
  | (a, w) :: (b, x) :: rest => w != unlistedByte && (decide (a < b) && Memory.wf ((b, x) :: rest))

/-- The byte at a computed address. Addresses are unbounded integers (20_memory.md R61); the memory key of an
admitted one is its `toNat`. -/
def State.byteAt (s : State) (a : Int) : Byte := Memory.read s.mem a.toNat

/-- The memory port admits the address (20_memory.md R61): it lies in the memory space and in `MemAdmit`. -/
def admits (p : Params) (a : Int) : Bool :=
  decide (0 ≤ a) && (decide (a < 2 ^ p.addrW) && p.memAdmit.any fun r => decide ((r.1 : Int) ≤ a) && decide (a < r.2))

/-- The lowest address of a list that the port refuses (60_exceptions.md R276). -/
def lowestUnadmitted (p : Params) (l : List Int) : Option Int := (l.filter fun a => !admits p a).min?

/-- What a kernel changes while it runs: memory, and the count of free values drawn. -/
structure Canvas where
  mem : List Host.Cell
  draws : Nat
  deriving DecidableEq, Repr

/-- `MemRead(a, 1)` (00_scope.md R7). -/
def Canvas.byte (c : Canvas) (a : Int) : Byte := Memory.read c.mem a.toNat

/-- `MemWrite(a, 1, v)` (00_scope.md R7). -/
def Canvas.put (c : Canvas) (a : Int) (v : Byte) : Canvas := { c with mem := Memory.write c.mem a.toNat v }

/-- Bytes written to addresses, pair by pair. -/
def Canvas.putAll (c : Canvas) (l : List (Int × Byte)) : Canvas := l.foldl (fun c p => c.put p.1 p.2) c

/-- The byte at `a` becomes `draw any` (00_scope.md R7): the next free value. -/
def Canvas.scramble (c : Canvas) (a : Int) : Canvas :=
  { mem := Memory.write c.mem a.toNat (Config.freeByte c.draws), draws := c.draws + 1 }

/-- Every byte of a list of addresses becomes `draw any`. -/
def Canvas.scrambleAll (c : Canvas) (l : List Int) : Canvas := l.foldl Canvas.scramble c

/-- The canvas of a state. -/
def State.canvas (s : State) : Canvas := ⟨s.mem, s.draws⟩

/-- A state with what a kernel has painted. -/
def State.withCanvas (s : State) (c : Canvas) : State := { s with mem := c.mem, draws := c.draws }

/-- A state with its context registers written. -/
def State.withCtx (s : State) (c : Ctx) : State := { s with ctx := c }

/-- `finish_ok(noop)` with kernel id `path` (60_exceptions.md R271). `LAST_ERROR` is unchanged. -/
def State.finishOk (s : State) (noop : Bool) (path : BitVec 5) : State :=
  { s with
    status := { done := true, noop := noop, code := 0, kind := .none, path := path }
    phase := .idle
    disturbed := false }

/-- `raise Status(code, kind)` (60_exceptions.md R272): how every error of this block is taken. -/
def State.raiseStatus (s : State) (code : Int) (kind : ErrorKind) : State :=
  { s with
    regs := { s.regs with lastError := BitVec.ofInt 32 code }
    status := { done := true, noop := false, code := BitVec.ofInt 8 code, kind := kind, path := 0 }
    phase := .idle
    disturbed := false }

/-- `LookupSat(g)` (44_lut_cache.md R223): `none` is a failed lookup. -/
def State.lookupSat (s : State) (g : Count) : Option State :=
  if g ∈ s.sat then some s
  else if s.sat.length < s.params.satCap then some { s with sat := s.sat ++ [g] }
  else none

/-- `LookupConv(gt, gs)` (44_lut_cache.md R223): `none` is a failed lookup. -/
def State.lookupConv (s : State) (gt gs : Count) : Option State :=
  if (gt, gs) ∈ s.conv then some s
  else if s.conv.length < s.params.convCap then some { s with conv := s.conv ++ [(gt, gs)] }
  else none

/-- Entry `k` of the saturation table for `g` (44_lut_cache.md R221): `none` past the table. -/
def satEntry (g k : Nat) : Option Nat :=
  if k + 1 ≤ g then some k else if k + 2 ≤ 3 * g then some (g - 1) else none

/-- Entry `i` of the conversion table for `(gt, gs)` (44_lut_cache.md R222): `none` past the table. -/
def convEntry (gt gs i : Nat) : Option Nat :=
  if i + 1 ≤ gs then some (i * (gt - 1) / (gs - 1)) else none

end Sys2Proof.Machine
end

