-- ==== Sys2Proof/Machine/Operands.lean ====
section
/-! DEFINITION. Operand assembly (30_encoding.md R92), row addresses and pixel layouts (20_memory.md R66 to R70), the
visible pixels and the two spans (20_memory.md R71). -/

namespace Sys2Proof.Machine

/-- `sb` (30_encoding.md R92). -/
def State.srcBase (s : State) : Nat := s.regs.srcBase.toNat % 2 ^ s.params.addrW
/-- `tb`. -/
def State.tgtBase (s : State) : Nat := s.regs.tgtBase.toNat % 2 ^ s.params.addrW
/-- `sp`, signed. -/
def State.srcPitch (s : State) : Int := s.regs.srcPitch.toInt
/-- `tp`, signed. -/
def State.tgtPitch (s : State) : Int := s.regs.tgtPitch.toInt
/-- `sw`. -/
def State.srcWidth (s : State) : Nat := (s.regs.srcSize.extractLsb' 0 16).toNat
/-- `sh`. -/
def State.srcHeight (s : State) : Nat := (s.regs.srcSize.extractLsb' 16 16).toNat
/-- `tw`. -/
def State.tgtWidth (s : State) : Nat := (s.regs.tgtSize.extractLsb' 0 16).toNat
/-- `th`. -/
def State.tgtHeight (s : State) : Nat := (s.regs.tgtSize.extractLsb' 16 16).toNat
/-- `sf`. -/
def State.srcFormat (s : State) : Format := .ofCode (s.regs.srcMode.extractLsb' 0 4)
/-- `tf`. -/
def State.tgtFormat (s : State) : Format := .ofCode (s.regs.tgtMode.extractLsb' 0 4)
/-- `gs`, the 9-bit field. -/
def State.srcGrays (s : State) : Count := s.regs.srcMode.extractLsb' 16 9
/-- `gt`, the 9-bit field. -/
def State.tgtGrays (s : State) : Count := s.regs.tgtMode.extractLsb' 16 9
/-- `x`, signed. -/
def State.posX (s : State) : Int := s.regs.posX.toInt
/-- `y`, signed. -/
def State.posY (s : State) : Int := s.regs.posY.toInt
/-- `fR`. -/
def State.fillR (s : State) : Byte := s.regs.colorChan.extractLsb' 0 8
/-- `fG`. -/
def State.fillG (s : State) : Byte := s.regs.colorChan.extractLsb' 8 8
/-- `fB`. -/
def State.fillB (s : State) : Byte := s.regs.colorChan.extractLsb' 16 8

/-- `valid(g)` (30_encoding.md R97). -/
def validCount (g : Count) : Bool := decide (2 ≤ g.toNat) && decide (g.toNat ≤ 256)

/-- Byte `k` of a word, least significant first (20_memory.md R62). -/
def wordByte (v : Word) (k : Nat) : Byte := v.extractLsb' (8 * k) 8

/-- `RowAddr(B, P, N, r)` (20_memory.md R66). -/
def rowAddr (base : Nat) (pitch : Int) (rows r : Nat) : Int :=
  base + (if pitch < 0 then ((rows : Int) - 1) * (-pitch) else 0) + r * pitch

/-- `SRow(r)` (20_memory.md R66). -/
def State.srcRow (s : State) (r : Nat) : Int := rowAddr s.srcBase s.srcPitch s.srcHeight r

/-- `TRow(r)` (20_memory.md R66). -/
def State.tgtRow (s : State) (r : Nat) : Int := rowAddr s.tgtBase s.tgtPitch s.tgtHeight r

/-- The addresses of the bytes that hold pixel `(x, y)`, in the order of 20_memory.md R68; for an LCD-vertical
bitmap `y` is the logical row (R67). Formats with no layout hold no bytes. -/
def pixelBytes (f : Format) (row : Nat → Int) (x y : Nat) : List Int :=
  match f with
  | .mono => [row y + (x / 8 : Nat)]
  | .pal4 => [row y + (x / 2 : Nat)]
  | .pal8 | .gray => [row y + x]
  | .lcdH | .lcdHR | .rgb24 => [row y + 3 * x, row y + 3 * x + 1, row y + 3 * x + 2]
  | .lcdV | .lcdVR => [row (3 * y) + x, row (3 * y + 1) + x, row (3 * y + 2) + x]
  | .rgb555 | .rgb565 => [row y + 2 * x, row y + 2 * x + 1]
  | .rgb32 => [row y + 4 * x, row y + 4 * x + 1, row y + 4 * x + 2, row y + 4 * x + 3]
  | .none | .rsv13 | .rsv14 | .rsv15 => []

/-- A visible pixel `(i, j)`: column and row of the visible rectangle (41_mono.md R140). -/
abbrev Pixel := Nat × Nat

/-- The visible pixels, row by row (41_mono.md R140). -/
def State.visible (s : State) : List Pixel :=
  (List.range s.ctx.visH.toNat).flatMap fun j => (List.range s.ctx.visW.toNat).map fun i => (i, j)

/-- Source column of a visible pixel. -/
def State.srcX (s : State) (p : Pixel) : Nat := s.ctx.readX.toNat + p.1
/-- Source row, logical for LCD-vertical sources. -/
def State.srcY (s : State) (p : Pixel) : Nat := s.ctx.readY.toNat + p.2
/-- Target column `tx(i)`. -/
def State.tgtX (s : State) (p : Pixel) : Nat := s.ctx.writeX.toNat + p.1
/-- Target row. -/
def State.tgtY (s : State) (p : Pixel) : Nat := s.ctx.writeY.toNat + p.2

/-- The bytes of the source pixel of a visible pixel, for source format `f`. -/
def State.srcBytes (s : State) (f : Format) (p : Pixel) : List Int := pixelBytes f s.srcRow (s.srcX p) (s.srcY p)

/-- The bytes of the target pixel of a visible pixel, for target format `f`. -/
def State.tgtBytes (s : State) (f : Format) (p : Pixel) : List Int := pixelBytes f s.tgtRow (s.tgtX p) (s.tgtY p)

/-- The source span (20_memory.md R71). -/
def State.srcSpan (s : State) (f : Format) : List Int := s.visible.flatMap (s.srcBytes f)

/-- The target span (20_memory.md R71). -/
def State.tgtSpan (s : State) (f : Format) : List Int := s.visible.flatMap (s.tgtBytes f)

/-- The two spans share a byte (20_memory.md R75). -/
def State.overlap (s : State) (sf tf : Format) : Bool := (s.srcSpan sf).any fun a => (s.tgtSpan tf).contains a

/-- The bytes of a solid write (20_memory.md R70), for the targets whose pixels are whole bytes. -/
def State.solid (s : State) (tf : Format) : List Byte :=
  match tf with
  | .pal8 | .gray => [wordByte s.regs.colorValue 0]
  | .rgb555 | .rgb565 => [wordByte s.regs.colorValue 0, wordByte s.regs.colorValue 1]
  | .rgb24 => [s.fillR, s.fillG, s.fillB]
  | .rgb32 => [wordByte s.regs.colorValue 0, wordByte s.regs.colorValue 1, wordByte s.regs.colorValue 2,
      wordByte s.regs.colorValue 3]
  | _ => []

end Sys2Proof.Machine
end

