-- ==== Sys2Proof/Machine/Flags.lean ====
section
/-! DEFINITION. The block has no condition flags (10_state.md R21). The bits it computes are the count bits of the
dispatch key (30_encoding.md R102) and the fields of `STATUS` and `CACHE_INFO` (10_state.md R23, R25). -/

namespace Sys2Proof.Machine

/-- `FormKey()` (30_encoding.md R102, 45_dispatch.md R247). -/
def State.formKey (s : State) : Key :=
  keyOf s.srcFormat s.tgtFormat (s.srcGrays == s.tgtGrays) (validCount s.tgtGrays) (s.srcGrays == 256#9)
    (validCount s.srcGrays)

/-- `CTX_KEY` for a formed key: `KEY_VALID` and the key (45_dispatch.md R247). -/
def ctxKeyWord (k : Key) : Word := 1#1 ++ (0#15 ++ k)

/-- The key shown in `CTX_KEY` bits 15:0 (10_state.md R33). -/
def Ctx.shownKey (c : Ctx) : Key := c.key.extractLsb' 0 16

/-- `KEY_VALID`, bit 31 of `CTX_KEY` (10_state.md R33). -/
def Ctx.keyValid (c : Ctx) : Bool := c.key.getLsbD 31

/-- The number of an error kind in `STATUS.KIND` (10_state.md R23, 30_encoding.md R93). -/
def ErrorKind.code : ErrorKind → BitVec 4
  | .none => 0
  | .argument => 1
  | .targetDepth => 2
  | .sourceDepth => 3
  | .tableCache => 4

/-- What a read of `STATUS` returns (10_state.md R23), from bit 31 down. -/
def State.statusWord (s : State) : Word :=
  0#3 ++ s.status.path ++ 0#4 ++ s.status.kind.code ++ s.status.code ++ 0#5 ++ BitVec.ofBool s.status.noop ++
    BitVec.ofBool s.status.done ++ BitVec.ofBool (s.phase == .busy)

/-- What a read of `CACHE_INFO` returns (10_state.md R25) with the given cache lists. -/
def cacheInfoWord (p : Params) (sat : List Count) (conv : List (Count × Count)) : Word :=
  BitVec.ofNat 8 p.convCap ++ BitVec.ofNat 8 p.satCap ++ BitVec.ofNat 8 conv.length ++ BitVec.ofNat 8 sat.length

end Sys2Proof.Machine
end

