-- ==== Sys2Proof/Machine/Clip.lean ====
section
/-! DEFINITION. The clipping-geometry unit (spec 40_clip.md R120 to R131). -/

namespace Sys2Proof.Machine

/-- `ceil_k(v)` (00_scope.md R6). -/
def ceilTo (k v : Nat) : Nat := (v + k - 1) / k * k

/-- Addressable width of the source (40_clip.md R121). -/
def addressableWidth (sf : Format) (sw : Nat) : Nat :=
  match sf with
  | .mono => ceilTo 8 sw
  | .pal4 => ceilTo 2 sw
  | .lcdH | .lcdHR => sw / 3
  | _ => sw

/-- Addressable height of the source (40_clip.md R121). -/
def addressableHeight (sf : Format) (sh : Nat) : Nat :=
  match sf with
  | .lcdV | .lcdVR => sh / 3
  | _ => sh

/-- Byte-rounded width of the target (40_clip.md R125). -/
def roundedWidth (tf : Format) (tw : Nat) : Nat :=
  match tf with
  | .mono => ceilTo 8 tw
  | .pal4 => ceilTo 2 tw
  | _ => tw

/-- What a clip that draws something gives (40_clip.md R120). -/
structure Clip where
  readX : Int
  readY : Int
  writeX : Int
  writeY : Int
  visW : Int
  visH : Int
  rightClip : Int
  deriving DecidableEq, Repr

/-- `Clip()` on its eight inputs (40_clip.md R131), on unbounded integers; `none` is `CLIP_NOOP`. -/
def clip (sf tf : Format) (sw sh tw th : Nat) (x y : Int) : Option Clip :=
  let aw : Int := addressableWidth sf sw
  let ah : Int := addressableHeight sf sh
  if aw = 0 ∨ ah = 0 then none
  else
    let xmax := x + aw - 1
    let ymax := y + ah - 1
    if xmax < 0 ∨ x ≥ tw ∨ tw = 0 ∨ ymax < 0 ∨ y ≥ th ∨ th = 0 then none
    else
      let writeX := if x < 0 then 0 else x
      let writeY := if y < 0 then 0 else y
      let rtw : Int := roundedWidth tf tw
      let excess := xmax - rtw + 1
      let xend := if excess > 0 then rtw - 1 else xmax
      let yend := if ymax ≥ th then (th : Int) - 1 else ymax
      some
        { readX := if x < 0 then -x else 0
          readY := if y < 0 then -y else 0
          writeX := writeX
          writeY := writeY
          visW := xend - writeX + 1
          visH := yend - writeY + 1
          rightClip := if excess > 0 then excess else 0 }

/-- `Clip()` on the operands of a state (40_clip.md R120). -/
def State.clip (s : State) : Option Clip :=
  Machine.clip s.srcFormat s.tgtFormat s.srcWidth s.srcHeight s.tgtWidth s.tgtHeight s.posX s.posY

/-- The context registers for a clip and a formed key (40_clip.md R129, 45_dispatch.md R247). -/
def Clip.ctx (c : Clip) (k : Key) : Ctx :=
  { readX := BitVec.ofInt 32 c.readX
    readY := BitVec.ofInt 32 c.readY
    writeX := BitVec.ofInt 32 c.writeX
    writeY := BitVec.ofInt 32 c.writeY
    visW := BitVec.ofInt 32 c.visW
    visH := BitVec.ofInt 32 c.visH
    rightClip := BitVec.ofInt 32 c.rightClip
    key := ctxKeyWord k }

end Sys2Proof.Machine
end

