-- ==== Sys2Proof/Machine/Command.lean ====
section
/-! DEFINITION. The BLIT command up to its dispatch key (spec 45_dispatch.md R240, R242 to R247). The unit's next turn
decodes the key and runs its row (HostPort.lean). R244 allows a coarser atomic step; these are its two halves
(log entry 1). -/

namespace Sys2Proof.Machine

/-- Step 1: a descriptor is null when its base register is 0 (45_dispatch.md R243). -/
def State.nullBitmap (s : State) : Bool := decide (s.srcBase = 0) || decide (s.tgtBase = 0)

/-- Step 2: the stored source size is zero (45_dispatch.md R245). -/
def State.zeroSize (s : State) : Bool := decide (s.srcWidth = 0) || decide (s.srcHeight = 0)

/-- A command has started (45_dispatch.md R242): `BUSY`, `DONE` cleared, the other fields of `STATUS` kept (R23). -/
def State.started (s : State) : State :=
  { s with phase := .busy, status := { s.status with done := false }, ctxBefore := s.ctx, disturbed := false }

/-- Steps 1 to 4 of `Blit()` (45_dispatch.md R240). -/
def State.frontEnd (s : State) : State :=
  if s.nullBitmap then (s.withCtx .zero).raiseStatus (-1) .argument
  else if s.zeroSize then (s.withCtx .zero).finishOk true 0
  else
    match s.clip with
    | none => (s.withCtx .zero).finishOk true 0
    | some c => s.withCtx (c.ctx s.formKey)

/-- `START` (45_dispatch.md R242): ignored while `BUSY`. Bits 31:1 of the word have no effect (10_state.md R22). -/
def execStart (s : State) : Host.Outcome State Fault Refusal :=
  match s.phase with
  | .busy => .next s
  | .idle => .next s.started.frontEnd

end Sys2Proof.Machine
end

