-- ==== Sys2Proof/Machine/Blend.lean ====
section
/-! DEFINITION. The blend laws (spec 42_gray.md R171, R178) and the channels of the colour targets (42_gray.md R173). -/

namespace Sys2Proof.Machine

/-- The general blend law (42_gray.md R171) on channel values; the division truncates toward zero (00_scope.md R6). -/
def blend (t f c m : Nat) : Int := t + ((c : Int) * ((f : Int) - t) + (m / 2 : Nat)).tdiv m

/-- The fast blend law (42_gray.md R178); the shift is arithmetic. -/
def fblend (t f v : Nat) : Int := t + (((v : Int) * ((f : Int) - t)) >>> (8 : Nat))

/-- A law that mixes a target channel with a fill channel of the same width. -/
abbrev Mix := (w : Nat) → BitVec w → BitVec w → BitVec w

/-- The general law on channels, for coverage `c` and maximum `m`. -/
def mixGeneral (c m : Nat) : Mix := fun w t f => BitVec.ofInt w (blend t.toNat f.toNat c m)

/-- The fast law on channels, for coverage `v`. -/
def mixFast (v : Nat) : Mix := fun w t f => BitVec.ofInt w (fblend t.toNat f.toNat v)

/-- Two bytes as the 16-bit pixel `Rd16` reads (20_memory.md R62). -/
def rd16 (b0 b1 : Byte) : BitVec 16 := b1 ++ b0

/-- The bytes `Wr16` writes (20_memory.md R62). -/
def wr16 (v : BitVec 16) : List Byte := [v.extractLsb' 0 8, v.extractLsb' 8 8]

/-- A blended RGB555 pixel (42_gray.md R173): bit 15 is kept. -/
def inject555 (mix : Mix) (p : BitVec 16) (r g b : Byte) : BitVec 16 :=
  p.extractLsb' 15 1 ++ mix 5 (p.extractLsb' 10 5) (r.extractLsb' 3 5) ++
    mix 5 (p.extractLsb' 5 5) (g.extractLsb' 3 5) ++ mix 5 (p.extractLsb' 0 5) (b.extractLsb' 3 5)

/-- A blended RGB565 pixel (42_gray.md R173). -/
def inject565 (mix : Mix) (p : BitVec 16) (r g b : Byte) : BitVec 16 :=
  mix 5 (p.extractLsb' 11 5) (r.extractLsb' 3 5) ++ mix 6 (p.extractLsb' 5 6) (g.extractLsb' 2 6) ++
    mix 5 (p.extractLsb' 0 5) (b.extractLsb' 3 5)

/-- The bytes of a blended write (42_gray.md R173): byte `k` of the old pixel is `old k`, the fill channels are
`r`, `g`, `b`. An RGB32 word holds B, G, R and the kept byte, from its lowest byte up (20_memory.md R62, R68). -/
def inject (tf : Format) (mix : Mix) (old : Nat → Byte) (r g b : Byte) : List Byte :=
  match tf with
  | .rgb555 => wr16 (inject555 mix (rd16 (old 0) (old 1)) r g b)
  | .rgb565 => wr16 (inject565 mix (rd16 (old 0) (old 1)) r g b)
  | .rgb24 => [mix 8 (old 0) r, mix 8 (old 1) g, mix 8 (old 2) b]
  | .rgb32 => [mix 8 (old 0) b, mix 8 (old 1) g, mix 8 (old 2) r, old 3]
  | _ => []

end Sys2Proof.Machine
end

