-- ==== Sys2Proof/Machine/Kernel.lean ====
section
/-! DEFINITION. What all 24 kernels share: the pixel loop over a pixel law, and `RunKernel` (spec 45_dispatch.md R259,
20_memory.md R71, R75, R76, 60_exceptions.md R276). -/

namespace Sys2Proof.Machine

/-- What a pixel law does to its target pixel. -/
inductive PixelAct where
  /-- No memory write. -/
  | skip
  /-- The pixel's bytes become these. -/
  | put (bytes : List Byte)
  /-- The pixel's bytes become `draw any` (93_implementation_defined.md U1, U2, U3). -/
  | any
  deriving DecidableEq, Repr

/-- A pixel law: from the registers, the source and target columns, the bytes of the source pixel and the old bytes
of the target pixel, what becomes of the target pixel. Nothing else enters (42_gray.md R170, 43_lcd.md R209). -/
abbrev PixelLaw := State → Nat → Nat → (Nat → Byte) → (Nat → Byte) → PixelAct

/-- Which tables a kernel looks up before it runs (44_lut_cache.md R227). -/
inductive Tables where
  | none
  | sat
  | satConv
  deriving DecidableEq, Repr

/-- A kernel: its id, the formats of its row (30_encoding.md R104), its lookups and its pixel law. -/
structure Kernel where
  id : BitVec 5
  sf : Format
  tf : Format
  tables : Tables
  law : PixelLaw

/-- Byte `k` of a pixel whose bytes stand at the addresses `l`; no law reads past a pixel's bytes. -/
def Canvas.pixel (c : Canvas) (l : List Int) (k : Nat) : Byte :=
  match l[k]? with
  | some a => c.byte a
  | none => 0

/-- What kernel `k` does at visible pixel `p` when the memory is that of the canvas. -/
def Kernel.act (k : Kernel) (s : State) (c : Canvas) (p : Pixel) : PixelAct :=
  k.law s (s.srcX p) (s.tgtX p) (c.pixel (s.srcBytes k.sf p)) (c.pixel (s.tgtBytes k.tf p))

/-- One visible pixel. -/
def Kernel.paintPixel (k : Kernel) (s : State) (c : Canvas) (p : Pixel) : Canvas :=
  match k.act s c p with
  | .skip => c
  | .put bytes => c.putAll ((s.tgtBytes k.tf p).zip bytes)
  | .any => c.scrambleAll (s.tgtBytes k.tf p)

/-- The pixel loop (`for j in 0 .. VH-1, i in 0 .. VW-1`). The order shows only where target rows share bytes; it is
the pseudocode's. DEDUCED (unsafe, log entry 9). -/
def Kernel.paint (k : Kernel) (s : State) (c : Canvas) : Canvas := s.visible.foldl (k.paintPixel s) c

/-- What the command leaves on the canvas: the pixel loop, unless the spans overlap (20_memory.md R75) or the host has
touched them (R76), when every byte of the target span is `draw any`. -/
def Kernel.composite (k : Kernel) (s : State) : Canvas :=
  if s.disturbed || s.overlap k.sf k.tf then s.canvas.scrambleAll (s.tgtSpan k.tf) else k.paint s s.canvas

/-- The access set of the command (20_memory.md R71). -/
def Kernel.accessSet (k : Kernel) (s : State) : List Int := s.srcSpan k.sf ++ s.tgtSpan k.tf

/-- Step a of `RunKernel` (45_dispatch.md R259): the lookups, with the state they leave. A failed lookup is an error;
an entry inserted before it stays (44_lut_cache.md R227). -/
def Kernel.lookups (k : Kernel) (s : State) : Except State State :=
  match k.tables with
  | .none => .ok s
  | .sat =>
    match s.lookupSat s.tgtGrays with
    | none => .error s
    | some s1 => .ok s1
  | .satConv =>
    match s.lookupSat s.tgtGrays with
    | none => .error s
    | some s1 =>
      match s1.lookupConv s.tgtGrays s.srcGrays with
      | none => .error s1
      | some s2 => .ok s2

/-- `RunKernel(k)` (45_dispatch.md R259). -/
def runKernel (k : Kernel) (s : State) : Host.Outcome State Fault Refusal :=
  match k.lookups s with
  | .error s1 => .next (s1.raiseStatus (-3) .tableCache)
  | .ok s1 =>
    match lowestUnadmitted s1.params (k.accessSet s1) with
    | some a => .fault (.busFault a)
    | none => .next ((s1.withCanvas (k.composite s1)).finishOk false k.id)

end Sys2Proof.Machine
end

