-- ==== Sys2Proof/Machine/Gray.lean ====
section
/-! DEFINITION. The ten gray kernels (spec 42_gray.md R170 to R184). -/

namespace Sys2Proof.Machine

/-- `m = gs - 1`, the coverage of full opacity (42_gray.md R170). -/
def State.maxCoverage (s : State) : Nat := s.srcGrays.toNat - 1

/-- The general pixel law (42_gray.md R172). -/
def lawGrayGeneral (tf : Format) : PixelLaw := fun s _ _ src old =>
  let c := (src 0).toNat
  if c = 0 then .skip
  else if c = s.maxCoverage then .put (s.solid tf)
  else if c < s.maxCoverage then .put (inject tf (mixGeneral c s.maxCoverage) old s.fillR s.fillG s.fillB)
  else .any

/-- The fast pixel law for 256 levels (42_gray.md R178). -/
def lawGrayFast (tf : Format) : PixelLaw := fun s _ _ src old =>
  let v := (src 0).toNat
  if v ≥ 254 then .put (s.solid tf)
  else if v ≥ 2 then .put (inject tf (mixFast v) old s.fillR s.fillG s.fillB)
  else .skip

/-- The write of a gray-into-gray pixel: the saturation-table entry at index `k`, free past the table (42_gray.md
R183). -/
def saturated (g k : Nat) : PixelAct :=
  match satEntry g k with
  | some v => .put [BitVec.ofNat 8 v]
  | none => .any

/-- `G2G_SAME` at one pixel (42_gray.md R183). -/
def lawG2gSame : PixelLaw := fun s _ _ src old => saturated s.tgtGrays.toNat ((old 0).toNat + (src 0).toNat)

/-- `G2G_CONV` at one pixel (42_gray.md R184). -/
def lawG2gConv : PixelLaw := fun s _ _ src old =>
  match convEntry s.tgtGrays.toNat s.srcGrays.toNat (src 0).toNat with
  | some k => saturated s.tgtGrays.toNat ((old 0).toNat + k)
  | none => .any

/-- Kernel 9 (42_gray.md R174). -/
def kernelG2R555 : Kernel := ⟨9, .gray, .rgb555, .none, lawGrayGeneral .rgb555⟩
/-- Kernel 10 (42_gray.md R175). -/
def kernelG2R565 : Kernel := ⟨10, .gray, .rgb565, .none, lawGrayGeneral .rgb565⟩
/-- Kernel 11 (42_gray.md R176). -/
def kernelG2R24 : Kernel := ⟨11, .gray, .rgb24, .none, lawGrayGeneral .rgb24⟩
/-- Kernel 12 (42_gray.md R177). -/
def kernelG2R32 : Kernel := ⟨12, .gray, .rgb32, .none, lawGrayGeneral .rgb32⟩
/-- Kernel 13 (42_gray.md R179). -/
def kernelG8R555 : Kernel := ⟨13, .gray, .rgb555, .none, lawGrayFast .rgb555⟩
/-- Kernel 14 (42_gray.md R180). -/
def kernelG8R565 : Kernel := ⟨14, .gray, .rgb565, .none, lawGrayFast .rgb565⟩
/-- Kernel 15 (42_gray.md R181). -/
def kernelG8R24 : Kernel := ⟨15, .gray, .rgb24, .none, lawGrayFast .rgb24⟩
/-- Kernel 16 (42_gray.md R182). -/
def kernelG8R32 : Kernel := ⟨16, .gray, .rgb32, .none, lawGrayFast .rgb32⟩
/-- Kernel 17 (42_gray.md R183). -/
def kernelG2gSame : Kernel := ⟨17, .gray, .gray, .sat, lawG2gSame⟩
/-- Kernel 18 (42_gray.md R184). -/
def kernelG2gConv : Kernel := ⟨18, .gray, .gray, .satConv, lawG2gConv⟩

/-- `G2R555` (42_gray.md R174). -/
def execG2R555 (s : State) : Host.Outcome State Fault Refusal := runKernel kernelG2R555 s
/-- `G2R565` (42_gray.md R175). -/
def execG2R565 (s : State) : Host.Outcome State Fault Refusal := runKernel kernelG2R565 s
/-- `G2R24` (42_gray.md R176). -/
def execG2R24 (s : State) : Host.Outcome State Fault Refusal := runKernel kernelG2R24 s
/-- `G2R32` (42_gray.md R177). -/
def execG2R32 (s : State) : Host.Outcome State Fault Refusal := runKernel kernelG2R32 s
/-- `G8R555` (42_gray.md R179). -/
def execG8R555 (s : State) : Host.Outcome State Fault Refusal := runKernel kernelG8R555 s
/-- `G8R565` (42_gray.md R180). -/
def execG8R565 (s : State) : Host.Outcome State Fault Refusal := runKernel kernelG8R565 s
/-- `G8R24` (42_gray.md R181). -/
def execG8R24 (s : State) : Host.Outcome State Fault Refusal := runKernel kernelG8R24 s
/-- `G8R32` (42_gray.md R182). -/
def execG8R32 (s : State) : Host.Outcome State Fault Refusal := runKernel kernelG8R32 s
/-- `G2G_SAME` (42_gray.md R183). -/
def execG2gSame (s : State) : Host.Outcome State Fault Refusal := runKernel kernelG2gSame s
/-- `G2G_CONV` (42_gray.md R184). -/
def execG2gConv (s : State) : Host.Outcome State Fault Refusal := runKernel kernelG2gConv s

end Sys2Proof.Machine
end

