-- ==== Sys2Proof/Machine/Lcd.lean ====
section
/-! DEFINITION. The six LCD kernels (spec 43_lcd.md R200 to R208). Horizontal and vertical sources differ only in
where their three samples stand (20_memory.md R68). -/

namespace Sys2Proof.Machine

/-- The coverages of R, G and B: the samples in order, or in reversed order (43_lcd.md R200). -/
def coverages (reversed : Bool) (src : Nat → Byte) : Nat × Nat × Nat :=
  if reversed then ((src 2).toNat, (src 1).toNat, (src 0).toNat)
  else ((src 0).toNat, (src 1).toNat, (src 2).toNat)

/-- The general LCD pixel law on three coverages (43_lcd.md R201). -/
def lcdGeneral (s : State) (m cR cG cB : Nat) (old : Nat → Byte) : PixelAct :=
  if cR = 0 ∧ cG = 0 ∧ cB = 0 then .skip
  else if cR = m ∧ cG = m ∧ cB = m then .put [s.fillR, s.fillG, s.fillB]
  else if cR > m ∨ cG > m ∨ cB > m then .any
  else .put [mixGeneral cR m 8 (old 0) s.fillR, mixGeneral cG m 8 (old 1) s.fillG, mixGeneral cB m 8 (old 2) s.fillB]

/-- One channel of the LCD fast law (43_lcd.md R206). -/
def lcdFastChannel (t f : Byte) (c : Nat) : Byte :=
  if c ≥ 254 then f else if c ≥ 2 then mixFast c 8 t f else t

/-- The LCD fast pixel law on three coverages (43_lcd.md R206). -/
def lcdFast (s : State) (cR cG cB : Nat) (old : Nat → Byte) : PixelAct :=
  if cR = 0 ∧ cG = 0 ∧ cB = 0 then .skip
  else .put [lcdFastChannel (old 0) s.fillR cR, lcdFastChannel (old 1) s.fillG cG, lcdFastChannel (old 2) s.fillB cB]

/-- The general law of an LCD kernel with `m = gs - 1` (43_lcd.md R202 to R205). -/
def lawLcdGeneral (reversed : Bool) : PixelLaw := fun s _ _ src old =>
  match coverages reversed src with
  | (cR, cG, cB) => lcdGeneral s s.maxCoverage cR cG cB old

/-- The fast law of an LCD kernel (43_lcd.md R207, R208). -/
def lawLcdFast (reversed : Bool) : PixelLaw := fun s _ _ src old =>
  match coverages reversed src with
  | (cR, cG, cB) => lcdFast s cR cG cB old

/-- Kernel 19 (43_lcd.md R202). -/
def kernelLcdh : Kernel := ⟨19, .lcdH, .rgb24, .none, lawLcdGeneral false⟩
/-- Kernel 20 (43_lcd.md R207). -/
def kernelLcdh8 : Kernel := ⟨20, .lcdH, .rgb24, .none, lawLcdFast false⟩
/-- Kernel 21 (43_lcd.md R203). -/
def kernelLcdhr : Kernel := ⟨21, .lcdHR, .rgb24, .none, lawLcdGeneral true⟩
/-- Kernel 22 (43_lcd.md R208). -/
def kernelLcdhr8 : Kernel := ⟨22, .lcdHR, .rgb24, .none, lawLcdFast true⟩
/-- Kernel 23 (43_lcd.md R204). -/
def kernelLcdv : Kernel := ⟨23, .lcdV, .rgb24, .none, lawLcdGeneral false⟩
/-- Kernel 24 (43_lcd.md R205). -/
def kernelLcdvr : Kernel := ⟨24, .lcdVR, .rgb24, .none, lawLcdGeneral true⟩

/-- `LCDH` (43_lcd.md R202). -/
def execLcdh (s : State) : Host.Outcome State Fault Refusal := runKernel kernelLcdh s
/-- `LCDH8` (43_lcd.md R207). -/
def execLcdh8 (s : State) : Host.Outcome State Fault Refusal := runKernel kernelLcdh8 s
/-- `LCDHR` (43_lcd.md R203). -/
def execLcdhr (s : State) : Host.Outcome State Fault Refusal := runKernel kernelLcdhr s
/-- `LCDHR8` (43_lcd.md R208). -/
def execLcdhr8 (s : State) : Host.Outcome State Fault Refusal := runKernel kernelLcdhr8 s
/-- `LCDV` (43_lcd.md R204). -/
def execLcdv (s : State) : Host.Outcome State Fault Refusal := runKernel kernelLcdv s
/-- `LCDVR` (43_lcd.md R205). -/
def execLcdvr (s : State) : Host.Outcome State Fault Refusal := runKernel kernelLcdvr s

end Sys2Proof.Machine
end

