-- ==== Sys2Proof/Machine/Mono.lean ====
section
/-! DEFINITION. The eight monochrome kernels (spec 41_mono.md R140 to R148). -/

namespace Sys2Proof.Machine

/-- `sbit(i,j)` (41_mono.md R140, 20_memory.md R69): the source bit in column `sx`, most significant bit first. -/
def sourceBit (sx : Nat) (src : Nat → Byte) : Bool := (src 0).getLsbD (7 - sx % 8)

/-- The mask of one target bit: the bit of column `tx` when the source bit is set (41_mono.md R141). -/
def monoMask (tx : Nat) (set : Bool) : Byte := if set then 1#8 <<< (7 - tx % 8) else 0#8

/-- `M2M` at one pixel: every target bit becomes old OR source; the byte is written even when the mask is 0
(41_mono.md R141). -/
def lawM2M : PixelLaw := fun _ sx tx src old => .put [old 0 ||| monoMask tx (sourceBit sx src)]

/-- `M2P4` at one pixel: a set pixel writes its nibble (41_mono.md R142). -/
def lawM2P4 : PixelLaw := fun s sx tx src old =>
  if sourceBit sx src then
    let ink : BitVec 4 := s.regs.colorValue.extractLsb' 0 4
    .put [if tx % 2 = 0 then ink ++ (old 0).extractLsb' 0 4 else (old 0).extractLsb' 4 4 ++ ink]
  else .skip

/-- A mono kernel on whole-byte pixels: a set pixel is a solid write, a clear one is skipped (41_mono.md R140). -/
def lawSolid (tf : Format) : PixelLaw := fun s sx _ src _ =>
  if sourceBit sx src then .put (s.solid tf) else .skip

/-- Kernel 1 (41_mono.md R141). -/
def kernelM2M : Kernel := ⟨1, .mono, .mono, .none, lawM2M⟩
/-- Kernel 2 (41_mono.md R142). -/
def kernelM2P4 : Kernel := ⟨2, .mono, .pal4, .none, lawM2P4⟩
/-- Kernel 3 (41_mono.md R143). -/
def kernelM2P8 : Kernel := ⟨3, .mono, .pal8, .none, lawSolid .pal8⟩
/-- Kernel 4 (41_mono.md R144). -/
def kernelM2G8 : Kernel := ⟨4, .mono, .gray, .none, lawSolid .gray⟩
/-- Kernel 5 (41_mono.md R145). -/
def kernelM2R555 : Kernel := ⟨5, .mono, .rgb555, .none, lawSolid .rgb555⟩
/-- Kernel 6 (41_mono.md R146). -/
def kernelM2R565 : Kernel := ⟨6, .mono, .rgb565, .none, lawSolid .rgb565⟩
/-- Kernel 7 (41_mono.md R147). -/
def kernelM2R24 : Kernel := ⟨7, .mono, .rgb24, .none, lawSolid .rgb24⟩
/-- Kernel 8 (41_mono.md R148). -/
def kernelM2R32 : Kernel := ⟨8, .mono, .rgb32, .none, lawSolid .rgb32⟩

/-- `M2M` (41_mono.md R141). -/
def execM2M (s : State) : Host.Outcome State Fault Refusal := runKernel kernelM2M s
/-- `M2P4` (41_mono.md R142). -/
def execM2P4 (s : State) : Host.Outcome State Fault Refusal := runKernel kernelM2P4 s
/-- `M2P8` (41_mono.md R143). -/
def execM2P8 (s : State) : Host.Outcome State Fault Refusal := runKernel kernelM2P8 s
/-- `M2G8` (41_mono.md R144). -/
def execM2G8 (s : State) : Host.Outcome State Fault Refusal := runKernel kernelM2G8 s
/-- `M2R555` (41_mono.md R145). -/
def execM2R555 (s : State) : Host.Outcome State Fault Refusal := runKernel kernelM2R555 s
/-- `M2R565` (41_mono.md R146). -/
def execM2R565 (s : State) : Host.Outcome State Fault Refusal := runKernel kernelM2R565 s
/-- `M2R24` (41_mono.md R147). -/
def execM2R24 (s : State) : Host.Outcome State Fault Refusal := runKernel kernelM2R24 s
/-- `M2R32` (41_mono.md R148). -/
def execM2R32 (s : State) : Host.Outcome State Fault Refusal := runKernel kernelM2R32 s

end Sys2Proof.Machine
end

