-- ==== Sys2Proof/Machine/Outcomes.lean ====
section
/-! DEFINITION. The rows of the dispatch table that run no kernel (spec 45_dispatch.md R254 to R257): three errors and
one no-op. Each row has its own meaning. None makes a memory access (20_memory.md R71). -/

namespace Sys2Proof.Machine

/-- `ERR_SRC`: status -2, `UnsupportedSourceDepth` (45_dispatch.md R254). -/
def unsupportedSource (s : State) : Host.Outcome State Fault Refusal := .next (s.raiseStatus (-2) .sourceDepth)

/-- `ERR_TGT`: status -1, `UnsupportedTargetDepth` (45_dispatch.md R255, 90_conflicts.md C1). -/
def unsupportedTarget (s : State) : Host.Outcome State Fault Refusal := .next (s.raiseStatus (-1) .targetDepth)

/-- `ERR_ARG`: status -1, `ArgumentError` (45_dispatch.md R256). -/
def invalidCount (s : State) : Host.Outcome State Fault Refusal := .next (s.raiseStatus (-1) .argument)

/-- `NOOP_LCD`: status 0, `NOOP = 1` (45_dispatch.md R257). -/
def nothingToDraw (s : State) : Host.Outcome State Fault Refusal := .next (s.finishOk true 0)

/-- `ERR_TGT.MONO.NONE` (45_dispatch.md R255). -/
def execErrTgtMonoNone (s : State) : Host.Outcome State Fault Refusal := unsupportedTarget s
/-- `ERR_TGT.MONO.LCD_H` (45_dispatch.md R255). -/
def execErrTgtMonoLcdH (s : State) : Host.Outcome State Fault Refusal := unsupportedTarget s
/-- `ERR_TGT.MONO.LCD_HR` (45_dispatch.md R255). -/
def execErrTgtMonoLcdHR (s : State) : Host.Outcome State Fault Refusal := unsupportedTarget s
/-- `ERR_TGT.MONO.LCD_V` (45_dispatch.md R255). -/
def execErrTgtMonoLcdV (s : State) : Host.Outcome State Fault Refusal := unsupportedTarget s
/-- `ERR_TGT.MONO.LCD_VR` (45_dispatch.md R255). -/
def execErrTgtMonoLcdVR (s : State) : Host.Outcome State Fault Refusal := unsupportedTarget s
/-- `ERR_TGT.MONO.RSV13` (45_dispatch.md R255). -/
def execErrTgtMonoRsv13 (s : State) : Host.Outcome State Fault Refusal := unsupportedTarget s
/-- `ERR_TGT.MONO.RSV14` (45_dispatch.md R255). -/
def execErrTgtMonoRsv14 (s : State) : Host.Outcome State Fault Refusal := unsupportedTarget s
/-- `ERR_TGT.MONO.RSV15` (45_dispatch.md R255). -/
def execErrTgtMonoRsv15 (s : State) : Host.Outcome State Fault Refusal := unsupportedTarget s
/-- `ERR_TGT.GRAY.NONE` (45_dispatch.md R255). -/
def execErrTgtGrayNone (s : State) : Host.Outcome State Fault Refusal := unsupportedTarget s
/-- `ERR_TGT.GRAY.MONO` (45_dispatch.md R255). -/
def execErrTgtGrayMono (s : State) : Host.Outcome State Fault Refusal := unsupportedTarget s
/-- `ERR_TGT.GRAY.PAL4` (45_dispatch.md R255). -/
def execErrTgtGrayPal4 (s : State) : Host.Outcome State Fault Refusal := unsupportedTarget s
/-- `ERR_TGT.GRAY.PAL8` (45_dispatch.md R255). -/
def execErrTgtGrayPal8 (s : State) : Host.Outcome State Fault Refusal := unsupportedTarget s
/-- `ERR_TGT.GRAY.LCD_H` (45_dispatch.md R255). -/
def execErrTgtGrayLcdH (s : State) : Host.Outcome State Fault Refusal := unsupportedTarget s
/-- `ERR_TGT.GRAY.LCD_HR` (45_dispatch.md R255). -/
def execErrTgtGrayLcdHR (s : State) : Host.Outcome State Fault Refusal := unsupportedTarget s
/-- `ERR_TGT.GRAY.LCD_V` (45_dispatch.md R255). -/
def execErrTgtGrayLcdV (s : State) : Host.Outcome State Fault Refusal := unsupportedTarget s
/-- `ERR_TGT.GRAY.LCD_VR` (45_dispatch.md R255). -/
def execErrTgtGrayLcdVR (s : State) : Host.Outcome State Fault Refusal := unsupportedTarget s
/-- `ERR_TGT.GRAY.RSV13` (45_dispatch.md R255). -/
def execErrTgtGrayRsv13 (s : State) : Host.Outcome State Fault Refusal := unsupportedTarget s
/-- `ERR_TGT.GRAY.RSV14` (45_dispatch.md R255). -/
def execErrTgtGrayRsv14 (s : State) : Host.Outcome State Fault Refusal := unsupportedTarget s
/-- `ERR_TGT.GRAY.RSV15` (45_dispatch.md R255). -/
def execErrTgtGrayRsv15 (s : State) : Host.Outcome State Fault Refusal := unsupportedTarget s
/-- `ERR_TGT.GRAY_BADCOUNT` (45_dispatch.md R255). -/
def execErrTgtGrayBadcount (s : State) : Host.Outcome State Fault Refusal := unsupportedTarget s
/-- `ERR_ARG.GRAY.ANY` (45_dispatch.md R256). -/
def execErrArgGrayAny (s : State) : Host.Outcome State Fault Refusal := invalidCount s
/-- `ERR_ARG.LCD_H.RGB24` (45_dispatch.md R256). -/
def execErrArgLcdHRgb24 (s : State) : Host.Outcome State Fault Refusal := invalidCount s
/-- `ERR_ARG.LCD_HR.RGB24` (45_dispatch.md R256). -/
def execErrArgLcdHRRgb24 (s : State) : Host.Outcome State Fault Refusal := invalidCount s
/-- `ERR_ARG.LCD_V.RGB24` (45_dispatch.md R256). -/
def execErrArgLcdVRgb24 (s : State) : Host.Outcome State Fault Refusal := invalidCount s
/-- `ERR_ARG.LCD_VR.RGB24` (45_dispatch.md R256). -/
def execErrArgLcdVRRgb24 (s : State) : Host.Outcome State Fault Refusal := invalidCount s
/-- `NOOP_LCD.LCD_H.NONE` (45_dispatch.md R257). -/
def execNoopLcdHNone (s : State) : Host.Outcome State Fault Refusal := nothingToDraw s
/-- `NOOP_LCD.LCD_H.MONO` (45_dispatch.md R257). -/
def execNoopLcdHMono (s : State) : Host.Outcome State Fault Refusal := nothingToDraw s
/-- `NOOP_LCD.LCD_H.PAL4` (45_dispatch.md R257). -/
def execNoopLcdHPal4 (s : State) : Host.Outcome State Fault Refusal := nothingToDraw s
/-- `NOOP_LCD.LCD_H.PAL8` (45_dispatch.md R257). -/
def execNoopLcdHPal8 (s : State) : Host.Outcome State Fault Refusal := nothingToDraw s
/-- `NOOP_LCD.LCD_H.GRAY` (45_dispatch.md R257). -/
def execNoopLcdHGray (s : State) : Host.Outcome State Fault Refusal := nothingToDraw s
/-- `NOOP_LCD.LCD_H.LCD_H` (45_dispatch.md R257). -/
def execNoopLcdHLcdH (s : State) : Host.Outcome State Fault Refusal := nothingToDraw s
/-- `NOOP_LCD.LCD_H.LCD_HR` (45_dispatch.md R257). -/
def execNoopLcdHLcdHR (s : State) : Host.Outcome State Fault Refusal := nothingToDraw s
/-- `NOOP_LCD.LCD_H.LCD_V` (45_dispatch.md R257). -/
def execNoopLcdHLcdV (s : State) : Host.Outcome State Fault Refusal := nothingToDraw s
/-- `NOOP_LCD.LCD_H.LCD_VR` (45_dispatch.md R257). -/
def execNoopLcdHLcdVR (s : State) : Host.Outcome State Fault Refusal := nothingToDraw s
/-- `NOOP_LCD.LCD_H.RGB555` (45_dispatch.md R257). -/
def execNoopLcdHRgb555 (s : State) : Host.Outcome State Fault Refusal := nothingToDraw s
/-- `NOOP_LCD.LCD_H.RGB565` (45_dispatch.md R257). -/
def execNoopLcdHRgb565 (s : State) : Host.Outcome State Fault Refusal := nothingToDraw s
/-- `NOOP_LCD.LCD_H.RGB32` (45_dispatch.md R257). -/
def execNoopLcdHRgb32 (s : State) : Host.Outcome State Fault Refusal := nothingToDraw s
/-- `NOOP_LCD.LCD_H.RSV13` (45_dispatch.md R257). -/
def execNoopLcdHRsv13 (s : State) : Host.Outcome State Fault Refusal := nothingToDraw s
/-- `NOOP_LCD.LCD_H.RSV14` (45_dispatch.md R257). -/
def execNoopLcdHRsv14 (s : State) : Host.Outcome State Fault Refusal := nothingToDraw s
/-- `NOOP_LCD.LCD_H.RSV15` (45_dispatch.md R257). -/
def execNoopLcdHRsv15 (s : State) : Host.Outcome State Fault Refusal := nothingToDraw s
/-- `NOOP_LCD.LCD_HR.NONE` (45_dispatch.md R257). -/
def execNoopLcdHRNone (s : State) : Host.Outcome State Fault Refusal := nothingToDraw s
/-- `NOOP_LCD.LCD_HR.MONO` (45_dispatch.md R257). -/
def execNoopLcdHRMono (s : State) : Host.Outcome State Fault Refusal := nothingToDraw s
/-- `NOOP_LCD.LCD_HR.PAL4` (45_dispatch.md R257). -/
def execNoopLcdHRPal4 (s : State) : Host.Outcome State Fault Refusal := nothingToDraw s
/-- `NOOP_LCD.LCD_HR.PAL8` (45_dispatch.md R257). -/
def execNoopLcdHRPal8 (s : State) : Host.Outcome State Fault Refusal := nothingToDraw s
/-- `NOOP_LCD.LCD_HR.GRAY` (45_dispatch.md R257). -/
def execNoopLcdHRGray (s : State) : Host.Outcome State Fault Refusal := nothingToDraw s
/-- `NOOP_LCD.LCD_HR.LCD_H` (45_dispatch.md R257). -/
def execNoopLcdHRLcdH (s : State) : Host.Outcome State Fault Refusal := nothingToDraw s
/-- `NOOP_LCD.LCD_HR.LCD_HR` (45_dispatch.md R257). -/
def execNoopLcdHRLcdHR (s : State) : Host.Outcome State Fault Refusal := nothingToDraw s
/-- `NOOP_LCD.LCD_HR.LCD_V` (45_dispatch.md R257). -/
def execNoopLcdHRLcdV (s : State) : Host.Outcome State Fault Refusal := nothingToDraw s
/-- `NOOP_LCD.LCD_HR.LCD_VR` (45_dispatch.md R257). -/
def execNoopLcdHRLcdVR (s : State) : Host.Outcome State Fault Refusal := nothingToDraw s
/-- `NOOP_LCD.LCD_HR.RGB555` (45_dispatch.md R257). -/
def execNoopLcdHRRgb555 (s : State) : Host.Outcome State Fault Refusal := nothingToDraw s
/-- `NOOP_LCD.LCD_HR.RGB565` (45_dispatch.md R257). -/
def execNoopLcdHRRgb565 (s : State) : Host.Outcome State Fault Refusal := nothingToDraw s
/-- `NOOP_LCD.LCD_HR.RGB32` (45_dispatch.md R257). -/
def execNoopLcdHRRgb32 (s : State) : Host.Outcome State Fault Refusal := nothingToDraw s
/-- `NOOP_LCD.LCD_HR.RSV13` (45_dispatch.md R257). -/
def execNoopLcdHRRsv13 (s : State) : Host.Outcome State Fault Refusal := nothingToDraw s
/-- `NOOP_LCD.LCD_HR.RSV14` (45_dispatch.md R257). -/
def execNoopLcdHRRsv14 (s : State) : Host.Outcome State Fault Refusal := nothingToDraw s
/-- `NOOP_LCD.LCD_HR.RSV15` (45_dispatch.md R257). -/
def execNoopLcdHRRsv15 (s : State) : Host.Outcome State Fault Refusal := nothingToDraw s
/-- `NOOP_LCD.LCD_V.NONE` (45_dispatch.md R257). -/
def execNoopLcdVNone (s : State) : Host.Outcome State Fault Refusal := nothingToDraw s
/-- `NOOP_LCD.LCD_V.MONO` (45_dispatch.md R257). -/
def execNoopLcdVMono (s : State) : Host.Outcome State Fault Refusal := nothingToDraw s
/-- `NOOP_LCD.LCD_V.PAL4` (45_dispatch.md R257). -/
def execNoopLcdVPal4 (s : State) : Host.Outcome State Fault Refusal := nothingToDraw s
/-- `NOOP_LCD.LCD_V.PAL8` (45_dispatch.md R257). -/
def execNoopLcdVPal8 (s : State) : Host.Outcome State Fault Refusal := nothingToDraw s
/-- `NOOP_LCD.LCD_V.GRAY` (45_dispatch.md R257). -/
def execNoopLcdVGray (s : State) : Host.Outcome State Fault Refusal := nothingToDraw s
/-- `NOOP_LCD.LCD_V.LCD_H` (45_dispatch.md R257). -/
def execNoopLcdVLcdH (s : State) : Host.Outcome State Fault Refusal := nothingToDraw s
/-- `NOOP_LCD.LCD_V.LCD_HR` (45_dispatch.md R257). -/
def execNoopLcdVLcdHR (s : State) : Host.Outcome State Fault Refusal := nothingToDraw s
/-- `NOOP_LCD.LCD_V.LCD_V` (45_dispatch.md R257). -/
def execNoopLcdVLcdV (s : State) : Host.Outcome State Fault Refusal := nothingToDraw s
/-- `NOOP_LCD.LCD_V.LCD_VR` (45_dispatch.md R257). -/
def execNoopLcdVLcdVR (s : State) : Host.Outcome State Fault Refusal := nothingToDraw s
/-- `NOOP_LCD.LCD_V.RGB555` (45_dispatch.md R257). -/
def execNoopLcdVRgb555 (s : State) : Host.Outcome State Fault Refusal := nothingToDraw s
/-- `NOOP_LCD.LCD_V.RGB565` (45_dispatch.md R257). -/
def execNoopLcdVRgb565 (s : State) : Host.Outcome State Fault Refusal := nothingToDraw s
/-- `NOOP_LCD.LCD_V.RGB32` (45_dispatch.md R257). -/
def execNoopLcdVRgb32 (s : State) : Host.Outcome State Fault Refusal := nothingToDraw s
/-- `NOOP_LCD.LCD_V.RSV13` (45_dispatch.md R257). -/
def execNoopLcdVRsv13 (s : State) : Host.Outcome State Fault Refusal := nothingToDraw s
/-- `NOOP_LCD.LCD_V.RSV14` (45_dispatch.md R257). -/
def execNoopLcdVRsv14 (s : State) : Host.Outcome State Fault Refusal := nothingToDraw s
/-- `NOOP_LCD.LCD_V.RSV15` (45_dispatch.md R257). -/
def execNoopLcdVRsv15 (s : State) : Host.Outcome State Fault Refusal := nothingToDraw s
/-- `NOOP_LCD.LCD_VR.NONE` (45_dispatch.md R257). -/
def execNoopLcdVRNone (s : State) : Host.Outcome State Fault Refusal := nothingToDraw s
/-- `NOOP_LCD.LCD_VR.MONO` (45_dispatch.md R257). -/
def execNoopLcdVRMono (s : State) : Host.Outcome State Fault Refusal := nothingToDraw s
/-- `NOOP_LCD.LCD_VR.PAL4` (45_dispatch.md R257). -/
def execNoopLcdVRPal4 (s : State) : Host.Outcome State Fault Refusal := nothingToDraw s
/-- `NOOP_LCD.LCD_VR.PAL8` (45_dispatch.md R257). -/
def execNoopLcdVRPal8 (s : State) : Host.Outcome State Fault Refusal := nothingToDraw s
/-- `NOOP_LCD.LCD_VR.GRAY` (45_dispatch.md R257). -/
def execNoopLcdVRGray (s : State) : Host.Outcome State Fault Refusal := nothingToDraw s
/-- `NOOP_LCD.LCD_VR.LCD_H` (45_dispatch.md R257). -/
def execNoopLcdVRLcdH (s : State) : Host.Outcome State Fault Refusal := nothingToDraw s
/-- `NOOP_LCD.LCD_VR.LCD_HR` (45_dispatch.md R257). -/
def execNoopLcdVRLcdHR (s : State) : Host.Outcome State Fault Refusal := nothingToDraw s
/-- `NOOP_LCD.LCD_VR.LCD_V` (45_dispatch.md R257). -/
def execNoopLcdVRLcdV (s : State) : Host.Outcome State Fault Refusal := nothingToDraw s
/-- `NOOP_LCD.LCD_VR.LCD_VR` (45_dispatch.md R257). -/
def execNoopLcdVRLcdVR (s : State) : Host.Outcome State Fault Refusal := nothingToDraw s
/-- `NOOP_LCD.LCD_VR.RGB555` (45_dispatch.md R257). -/
def execNoopLcdVRRgb555 (s : State) : Host.Outcome State Fault Refusal := nothingToDraw s
/-- `NOOP_LCD.LCD_VR.RGB565` (45_dispatch.md R257). -/
def execNoopLcdVRRgb565 (s : State) : Host.Outcome State Fault Refusal := nothingToDraw s
/-- `NOOP_LCD.LCD_VR.RGB32` (45_dispatch.md R257). -/
def execNoopLcdVRRgb32 (s : State) : Host.Outcome State Fault Refusal := nothingToDraw s
/-- `NOOP_LCD.LCD_VR.RSV13` (45_dispatch.md R257). -/
def execNoopLcdVRRsv13 (s : State) : Host.Outcome State Fault Refusal := nothingToDraw s
/-- `NOOP_LCD.LCD_VR.RSV14` (45_dispatch.md R257). -/
def execNoopLcdVRRsv14 (s : State) : Host.Outcome State Fault Refusal := nothingToDraw s
/-- `NOOP_LCD.LCD_VR.RSV15` (45_dispatch.md R257). -/
def execNoopLcdVRRsv15 (s : State) : Host.Outcome State Fault Refusal := nothingToDraw s
/-- `ERR_SRC.NONE.ANY` (45_dispatch.md R254). -/
def execErrSrcNoneAny (s : State) : Host.Outcome State Fault Refusal := unsupportedSource s
/-- `ERR_SRC.PAL4.ANY` (45_dispatch.md R254). -/
def execErrSrcPal4Any (s : State) : Host.Outcome State Fault Refusal := unsupportedSource s
/-- `ERR_SRC.PAL8.ANY` (45_dispatch.md R254). -/
def execErrSrcPal8Any (s : State) : Host.Outcome State Fault Refusal := unsupportedSource s
/-- `ERR_SRC.RGB555.ANY` (45_dispatch.md R254). -/
def execErrSrcRgb555Any (s : State) : Host.Outcome State Fault Refusal := unsupportedSource s
/-- `ERR_SRC.RGB565.ANY` (45_dispatch.md R254). -/
def execErrSrcRgb565Any (s : State) : Host.Outcome State Fault Refusal := unsupportedSource s
/-- `ERR_SRC.RGB24.ANY` (45_dispatch.md R254). -/
def execErrSrcRgb24Any (s : State) : Host.Outcome State Fault Refusal := unsupportedSource s
/-- `ERR_SRC.RGB32.ANY` (45_dispatch.md R254). -/
def execErrSrcRgb32Any (s : State) : Host.Outcome State Fault Refusal := unsupportedSource s
/-- `ERR_SRC.RSV13.ANY` (45_dispatch.md R254). -/
def execErrSrcRsv13Any (s : State) : Host.Outcome State Fault Refusal := unsupportedSource s
/-- `ERR_SRC.RSV14.ANY` (45_dispatch.md R254). -/
def execErrSrcRsv14Any (s : State) : Host.Outcome State Fault Refusal := unsupportedSource s
/-- `ERR_SRC.RSV15.ANY` (45_dispatch.md R254). -/
def execErrSrcRsv15Any (s : State) : Host.Outcome State Fault Refusal := unsupportedSource s

end Sys2Proof.Machine
end

