-- ==== Sys2Proof/Machine/Dispatch.lean ====
section
/-! DEFINITION. exec: one arm for each instruction, each one call of its meaning. -/

namespace Sys2Proof.Machine

def exec (i : Instr) (s : State) : Host.Outcome State Fault Refusal :=
  match i with
  | .m2m _ _ _ _ => Sys2Proof.Machine.execM2M s
  | .m2p4 _ _ _ _ => Sys2Proof.Machine.execM2P4 s
  | .m2p8 _ _ _ _ => Sys2Proof.Machine.execM2P8 s
  | .m2g8 _ _ _ _ => Sys2Proof.Machine.execM2G8 s
  | .m2r555 _ _ _ _ => Sys2Proof.Machine.execM2R555 s
  | .m2r565 _ _ _ _ => Sys2Proof.Machine.execM2R565 s
  | .m2r24 _ _ _ _ => Sys2Proof.Machine.execM2R24 s
  | .m2r32 _ _ _ _ => Sys2Proof.Machine.execM2R32 s
  | .g2r555 _ _ => Sys2Proof.Machine.execG2R555 s
  | .g2r565 _ _ => Sys2Proof.Machine.execG2R565 s
  | .g2r24 _ _ => Sys2Proof.Machine.execG2R24 s
  | .g2r32 _ _ => Sys2Proof.Machine.execG2R32 s
  | .g8r555 _ _ => Sys2Proof.Machine.execG8R555 s
  | .g8r565 _ _ => Sys2Proof.Machine.execG8R565 s
  | .g8r24 _ _ => Sys2Proof.Machine.execG8R24 s
  | .g8r32 _ _ => Sys2Proof.Machine.execG8R32 s
  | .g2gSame _ => Sys2Proof.Machine.execG2gSame s
  | .g2gConv _ => Sys2Proof.Machine.execG2gConv s
  | .lcdh _ _ => Sys2Proof.Machine.execLcdh s
  | .lcdh8 _ _ => Sys2Proof.Machine.execLcdh8 s
  | .lcdhr _ _ => Sys2Proof.Machine.execLcdhr s
  | .lcdhr8 _ _ => Sys2Proof.Machine.execLcdhr8 s
  | .lcdv _ _ _ => Sys2Proof.Machine.execLcdv s
  | .lcdvr _ _ _ => Sys2Proof.Machine.execLcdvr s
  | .errTgtMonoNone _ _ _ _ => Sys2Proof.Machine.execErrTgtMonoNone s
  | .errTgtMonoLcdH _ _ _ _ => Sys2Proof.Machine.execErrTgtMonoLcdH s
  | .errTgtMonoLcdHR _ _ _ _ => Sys2Proof.Machine.execErrTgtMonoLcdHR s
  | .errTgtMonoLcdV _ _ _ _ => Sys2Proof.Machine.execErrTgtMonoLcdV s
  | .errTgtMonoLcdVR _ _ _ _ => Sys2Proof.Machine.execErrTgtMonoLcdVR s
  | .errTgtMonoRsv13 _ _ _ _ => Sys2Proof.Machine.execErrTgtMonoRsv13 s
  | .errTgtMonoRsv14 _ _ _ _ => Sys2Proof.Machine.execErrTgtMonoRsv14 s
  | .errTgtMonoRsv15 _ _ _ _ => Sys2Proof.Machine.execErrTgtMonoRsv15 s
  | .errTgtGrayNone _ _ _ => Sys2Proof.Machine.execErrTgtGrayNone s
  | .errTgtGrayMono _ _ _ => Sys2Proof.Machine.execErrTgtGrayMono s
  | .errTgtGrayPal4 _ _ _ => Sys2Proof.Machine.execErrTgtGrayPal4 s
  | .errTgtGrayPal8 _ _ _ => Sys2Proof.Machine.execErrTgtGrayPal8 s
  | .errTgtGrayLcdH _ _ _ => Sys2Proof.Machine.execErrTgtGrayLcdH s
  | .errTgtGrayLcdHR _ _ _ => Sys2Proof.Machine.execErrTgtGrayLcdHR s
  | .errTgtGrayLcdV _ _ _ => Sys2Proof.Machine.execErrTgtGrayLcdV s
  | .errTgtGrayLcdVR _ _ _ => Sys2Proof.Machine.execErrTgtGrayLcdVR s
  | .errTgtGrayRsv13 _ _ _ => Sys2Proof.Machine.execErrTgtGrayRsv13 s
  | .errTgtGrayRsv14 _ _ _ => Sys2Proof.Machine.execErrTgtGrayRsv14 s
  | .errTgtGrayRsv15 _ _ _ => Sys2Proof.Machine.execErrTgtGrayRsv15 s
  | .errTgtGrayBadcount _ _ => Sys2Proof.Machine.execErrTgtGrayBadcount s
  | .errArgGrayAny _ _ _ _ => Sys2Proof.Machine.execErrArgGrayAny s
  | .errArgLcdHRgb24 _ _ _ => Sys2Proof.Machine.execErrArgLcdHRgb24 s
  | .errArgLcdHRRgb24 _ _ _ => Sys2Proof.Machine.execErrArgLcdHRRgb24 s
  | .errArgLcdVRgb24 _ _ _ => Sys2Proof.Machine.execErrArgLcdVRgb24 s
  | .errArgLcdVRRgb24 _ _ _ => Sys2Proof.Machine.execErrArgLcdVRRgb24 s
  | .noopLcdHNone _ _ _ _ => Sys2Proof.Machine.execNoopLcdHNone s
  | .noopLcdHMono _ _ _ _ => Sys2Proof.Machine.execNoopLcdHMono s
  | .noopLcdHPal4 _ _ _ _ => Sys2Proof.Machine.execNoopLcdHPal4 s
  | .noopLcdHPal8 _ _ _ _ => Sys2Proof.Machine.execNoopLcdHPal8 s
  | .noopLcdHGray _ _ _ _ => Sys2Proof.Machine.execNoopLcdHGray s
  | .noopLcdHLcdH _ _ _ _ => Sys2Proof.Machine.execNoopLcdHLcdH s
  | .noopLcdHLcdHR _ _ _ _ => Sys2Proof.Machine.execNoopLcdHLcdHR s
  | .noopLcdHLcdV _ _ _ _ => Sys2Proof.Machine.execNoopLcdHLcdV s
  | .noopLcdHLcdVR _ _ _ _ => Sys2Proof.Machine.execNoopLcdHLcdVR s
  | .noopLcdHRgb555 _ _ _ _ => Sys2Proof.Machine.execNoopLcdHRgb555 s
  | .noopLcdHRgb565 _ _ _ _ => Sys2Proof.Machine.execNoopLcdHRgb565 s
  | .noopLcdHRgb32 _ _ _ _ => Sys2Proof.Machine.execNoopLcdHRgb32 s
  | .noopLcdHRsv13 _ _ _ _ => Sys2Proof.Machine.execNoopLcdHRsv13 s
  | .noopLcdHRsv14 _ _ _ _ => Sys2Proof.Machine.execNoopLcdHRsv14 s
  | .noopLcdHRsv15 _ _ _ _ => Sys2Proof.Machine.execNoopLcdHRsv15 s
  | .noopLcdHRNone _ _ _ _ => Sys2Proof.Machine.execNoopLcdHRNone s
  | .noopLcdHRMono _ _ _ _ => Sys2Proof.Machine.execNoopLcdHRMono s
  | .noopLcdHRPal4 _ _ _ _ => Sys2Proof.Machine.execNoopLcdHRPal4 s
  | .noopLcdHRPal8 _ _ _ _ => Sys2Proof.Machine.execNoopLcdHRPal8 s
  | .noopLcdHRGray _ _ _ _ => Sys2Proof.Machine.execNoopLcdHRGray s
  | .noopLcdHRLcdH _ _ _ _ => Sys2Proof.Machine.execNoopLcdHRLcdH s
  | .noopLcdHRLcdHR _ _ _ _ => Sys2Proof.Machine.execNoopLcdHRLcdHR s
  | .noopLcdHRLcdV _ _ _ _ => Sys2Proof.Machine.execNoopLcdHRLcdV s
  | .noopLcdHRLcdVR _ _ _ _ => Sys2Proof.Machine.execNoopLcdHRLcdVR s
  | .noopLcdHRRgb555 _ _ _ _ => Sys2Proof.Machine.execNoopLcdHRRgb555 s
  | .noopLcdHRRgb565 _ _ _ _ => Sys2Proof.Machine.execNoopLcdHRRgb565 s
  | .noopLcdHRRgb32 _ _ _ _ => Sys2Proof.Machine.execNoopLcdHRRgb32 s
  | .noopLcdHRRsv13 _ _ _ _ => Sys2Proof.Machine.execNoopLcdHRRsv13 s
  | .noopLcdHRRsv14 _ _ _ _ => Sys2Proof.Machine.execNoopLcdHRRsv14 s
  | .noopLcdHRRsv15 _ _ _ _ => Sys2Proof.Machine.execNoopLcdHRRsv15 s
  | .noopLcdVNone _ _ _ _ => Sys2Proof.Machine.execNoopLcdVNone s
  | .noopLcdVMono _ _ _ _ => Sys2Proof.Machine.execNoopLcdVMono s
  | .noopLcdVPal4 _ _ _ _ => Sys2Proof.Machine.execNoopLcdVPal4 s
  | .noopLcdVPal8 _ _ _ _ => Sys2Proof.Machine.execNoopLcdVPal8 s
  | .noopLcdVGray _ _ _ _ => Sys2Proof.Machine.execNoopLcdVGray s
  | .noopLcdVLcdH _ _ _ _ => Sys2Proof.Machine.execNoopLcdVLcdH s
  | .noopLcdVLcdHR _ _ _ _ => Sys2Proof.Machine.execNoopLcdVLcdHR s
  | .noopLcdVLcdV _ _ _ _ => Sys2Proof.Machine.execNoopLcdVLcdV s
  | .noopLcdVLcdVR _ _ _ _ => Sys2Proof.Machine.execNoopLcdVLcdVR s
  | .noopLcdVRgb555 _ _ _ _ => Sys2Proof.Machine.execNoopLcdVRgb555 s
  | .noopLcdVRgb565 _ _ _ _ => Sys2Proof.Machine.execNoopLcdVRgb565 s
  | .noopLcdVRgb32 _ _ _ _ => Sys2Proof.Machine.execNoopLcdVRgb32 s
  | .noopLcdVRsv13 _ _ _ _ => Sys2Proof.Machine.execNoopLcdVRsv13 s
  | .noopLcdVRsv14 _ _ _ _ => Sys2Proof.Machine.execNoopLcdVRsv14 s
  | .noopLcdVRsv15 _ _ _ _ => Sys2Proof.Machine.execNoopLcdVRsv15 s
  | .noopLcdVRNone _ _ _ _ => Sys2Proof.Machine.execNoopLcdVRNone s
  | .noopLcdVRMono _ _ _ _ => Sys2Proof.Machine.execNoopLcdVRMono s
  | .noopLcdVRPal4 _ _ _ _ => Sys2Proof.Machine.execNoopLcdVRPal4 s
  | .noopLcdVRPal8 _ _ _ _ => Sys2Proof.Machine.execNoopLcdVRPal8 s
  | .noopLcdVRGray _ _ _ _ => Sys2Proof.Machine.execNoopLcdVRGray s
  | .noopLcdVRLcdH _ _ _ _ => Sys2Proof.Machine.execNoopLcdVRLcdH s
  | .noopLcdVRLcdHR _ _ _ _ => Sys2Proof.Machine.execNoopLcdVRLcdHR s
  | .noopLcdVRLcdV _ _ _ _ => Sys2Proof.Machine.execNoopLcdVRLcdV s
  | .noopLcdVRLcdVR _ _ _ _ => Sys2Proof.Machine.execNoopLcdVRLcdVR s
  | .noopLcdVRRgb555 _ _ _ _ => Sys2Proof.Machine.execNoopLcdVRRgb555 s
  | .noopLcdVRRgb565 _ _ _ _ => Sys2Proof.Machine.execNoopLcdVRRgb565 s
  | .noopLcdVRRgb32 _ _ _ _ => Sys2Proof.Machine.execNoopLcdVRRgb32 s
  | .noopLcdVRRsv13 _ _ _ _ => Sys2Proof.Machine.execNoopLcdVRRsv13 s
  | .noopLcdVRRsv14 _ _ _ _ => Sys2Proof.Machine.execNoopLcdVRRsv14 s
  | .noopLcdVRRsv15 _ _ _ _ => Sys2Proof.Machine.execNoopLcdVRRsv15 s
  | .errSrcNoneAny _ _ _ _ _ => Sys2Proof.Machine.execErrSrcNoneAny s
  | .errSrcPal4Any _ _ _ _ _ => Sys2Proof.Machine.execErrSrcPal4Any s
  | .errSrcPal8Any _ _ _ _ _ => Sys2Proof.Machine.execErrSrcPal8Any s
  | .errSrcRgb555Any _ _ _ _ _ => Sys2Proof.Machine.execErrSrcRgb555Any s
  | .errSrcRgb565Any _ _ _ _ _ => Sys2Proof.Machine.execErrSrcRgb565Any s
  | .errSrcRgb24Any _ _ _ _ _ => Sys2Proof.Machine.execErrSrcRgb24Any s
  | .errSrcRgb32Any _ _ _ _ _ => Sys2Proof.Machine.execErrSrcRgb32Any s
  | .errSrcRsv13Any _ _ _ _ _ => Sys2Proof.Machine.execErrSrcRsv13Any s
  | .errSrcRsv14Any _ _ _ _ _ => Sys2Proof.Machine.execErrSrcRsv14Any s
  | .errSrcRsv15Any _ _ _ _ _ => Sys2Proof.Machine.execErrSrcRsv15Any s
  | .start _ => Sys2Proof.Machine.execStart s

end Sys2Proof.Machine
end

