-- ==== Sys2Proof/Machine/Kernels.lean ====
section
/-! DEFINITION. The kernel of each row of the dispatch table (spec 30_encoding.md R104): the 24 kernels, and none for
the outcome rows and `START`. -/

namespace Sys2Proof.Machine

/-- The kernel an instruction runs (30_encoding.md R104). -/
def kernelOf : Instr → Option Kernel
  | .m2m _ _ _ _ => some kernelM2M
  | .m2p4 _ _ _ _ => some kernelM2P4
  | .m2p8 _ _ _ _ => some kernelM2P8
  | .m2g8 _ _ _ _ => some kernelM2G8
  | .m2r555 _ _ _ _ => some kernelM2R555
  | .m2r565 _ _ _ _ => some kernelM2R565
  | .m2r24 _ _ _ _ => some kernelM2R24
  | .m2r32 _ _ _ _ => some kernelM2R32
  | .g2r555 _ _ => some kernelG2R555
  | .g2r565 _ _ => some kernelG2R565
  | .g2r24 _ _ => some kernelG2R24
  | .g2r32 _ _ => some kernelG2R32
  | .g8r555 _ _ => some kernelG8R555
  | .g8r565 _ _ => some kernelG8R565
  | .g8r24 _ _ => some kernelG8R24
  | .g8r32 _ _ => some kernelG8R32
  | .g2gSame _ => some kernelG2gSame
  | .g2gConv _ => some kernelG2gConv
  | .lcdh _ _ => some kernelLcdh
  | .lcdh8 _ _ => some kernelLcdh8
  | .lcdhr _ _ => some kernelLcdhr
  | .lcdhr8 _ _ => some kernelLcdhr8
  | .lcdv _ _ _ => some kernelLcdv
  | .lcdvr _ _ _ => some kernelLcdvr
  | .errTgtMonoNone _ _ _ _ => none
  | .errTgtMonoLcdH _ _ _ _ => none
  | .errTgtMonoLcdHR _ _ _ _ => none
  | .errTgtMonoLcdV _ _ _ _ => none
  | .errTgtMonoLcdVR _ _ _ _ => none
  | .errTgtMonoRsv13 _ _ _ _ => none
  | .errTgtMonoRsv14 _ _ _ _ => none
  | .errTgtMonoRsv15 _ _ _ _ => none
  | .errTgtGrayNone _ _ _ => none
  | .errTgtGrayMono _ _ _ => none
  | .errTgtGrayPal4 _ _ _ => none
  | .errTgtGrayPal8 _ _ _ => none
  | .errTgtGrayLcdH _ _ _ => none
  | .errTgtGrayLcdHR _ _ _ => none
  | .errTgtGrayLcdV _ _ _ => none
  | .errTgtGrayLcdVR _ _ _ => none
  | .errTgtGrayRsv13 _ _ _ => none
  | .errTgtGrayRsv14 _ _ _ => none
  | .errTgtGrayRsv15 _ _ _ => none
  | .errTgtGrayBadcount _ _ => none
  | .errArgGrayAny _ _ _ _ => none
  | .errArgLcdHRgb24 _ _ _ => none
  | .errArgLcdHRRgb24 _ _ _ => none
  | .errArgLcdVRgb24 _ _ _ => none
  | .errArgLcdVRRgb24 _ _ _ => none
  | .noopLcdHNone _ _ _ _ => none
  | .noopLcdHMono _ _ _ _ => none
  | .noopLcdHPal4 _ _ _ _ => none
  | .noopLcdHPal8 _ _ _ _ => none
  | .noopLcdHGray _ _ _ _ => none
  | .noopLcdHLcdH _ _ _ _ => none
  | .noopLcdHLcdHR _ _ _ _ => none
  | .noopLcdHLcdV _ _ _ _ => none
  | .noopLcdHLcdVR _ _ _ _ => none
  | .noopLcdHRgb555 _ _ _ _ => none
  | .noopLcdHRgb565 _ _ _ _ => none
  | .noopLcdHRgb32 _ _ _ _ => none
  | .noopLcdHRsv13 _ _ _ _ => none
  | .noopLcdHRsv14 _ _ _ _ => none
  | .noopLcdHRsv15 _ _ _ _ => none
  | .noopLcdHRNone _ _ _ _ => none
  | .noopLcdHRMono _ _ _ _ => none
  | .noopLcdHRPal4 _ _ _ _ => none
  | .noopLcdHRPal8 _ _ _ _ => none
  | .noopLcdHRGray _ _ _ _ => none
  | .noopLcdHRLcdH _ _ _ _ => none
  | .noopLcdHRLcdHR _ _ _ _ => none
  | .noopLcdHRLcdV _ _ _ _ => none
  | .noopLcdHRLcdVR _ _ _ _ => none
  | .noopLcdHRRgb555 _ _ _ _ => none
  | .noopLcdHRRgb565 _ _ _ _ => none
  | .noopLcdHRRgb32 _ _ _ _ => none
  | .noopLcdHRRsv13 _ _ _ _ => none
  | .noopLcdHRRsv14 _ _ _ _ => none
  | .noopLcdHRRsv15 _ _ _ _ => none
  | .noopLcdVNone _ _ _ _ => none
  | .noopLcdVMono _ _ _ _ => none
  | .noopLcdVPal4 _ _ _ _ => none
  | .noopLcdVPal8 _ _ _ _ => none
  | .noopLcdVGray _ _ _ _ => none
  | .noopLcdVLcdH _ _ _ _ => none
  | .noopLcdVLcdHR _ _ _ _ => none
  | .noopLcdVLcdV _ _ _ _ => none
  | .noopLcdVLcdVR _ _ _ _ => none
  | .noopLcdVRgb555 _ _ _ _ => none
  | .noopLcdVRgb565 _ _ _ _ => none
  | .noopLcdVRgb32 _ _ _ _ => none
  | .noopLcdVRsv13 _ _ _ _ => none
  | .noopLcdVRsv14 _ _ _ _ => none
  | .noopLcdVRsv15 _ _ _ _ => none
  | .noopLcdVRNone _ _ _ _ => none
  | .noopLcdVRMono _ _ _ _ => none
  | .noopLcdVRPal4 _ _ _ _ => none
  | .noopLcdVRPal8 _ _ _ _ => none
  | .noopLcdVRGray _ _ _ _ => none
  | .noopLcdVRLcdH _ _ _ _ => none
  | .noopLcdVRLcdHR _ _ _ _ => none
  | .noopLcdVRLcdV _ _ _ _ => none
  | .noopLcdVRLcdVR _ _ _ _ => none
  | .noopLcdVRRgb555 _ _ _ _ => none
  | .noopLcdVRRgb565 _ _ _ _ => none
  | .noopLcdVRRgb32 _ _ _ _ => none
  | .noopLcdVRRsv13 _ _ _ _ => none
  | .noopLcdVRRsv14 _ _ _ _ => none
  | .noopLcdVRRsv15 _ _ _ _ => none
  | .errSrcNoneAny _ _ _ _ _ => none
  | .errSrcPal4Any _ _ _ _ _ => none
  | .errSrcPal8Any _ _ _ _ _ => none
  | .errSrcRgb555Any _ _ _ _ _ => none
  | .errSrcRgb565Any _ _ _ _ _ => none
  | .errSrcRgb24Any _ _ _ _ _ => none
  | .errSrcRgb32Any _ _ _ _ _ => none
  | .errSrcRsv13Any _ _ _ _ _ => none
  | .errSrcRsv14Any _ _ _ _ _ => none
  | .errSrcRsv15Any _ _ _ _ _ => none
  | .start _ => none

end Sys2Proof.Machine
end

