-- ==== Sys2Proof/Machine/HostPort.lean ====
section
/-! DEFINITION. The register port (spec 30_encoding.md R90, R91; 10_state.md R22 to R39), the host's memory accesses
(20_memory.md R72, R76), reset (70_reset_and_hazards.md R290 to R292), and whose turn it is: `turn` says which
instruction the next step runs, or what the next event does by itself. -/

namespace Sys2Proof.Machine

/-- The registers of the register block (30_encoding.md R90). -/
inductive Reg where
  | ctrl
  | status
  | lastError
  | cacheInfo
  | srcBase
  | srcPitch
  | srcSize
  | srcMode
  | tgtBase
  | tgtPitch
  | tgtSize
  | tgtMode
  | posX
  | posY
  | colorValue
  | colorChan
  | ctxReadX
  | ctxReadY
  | ctxWriteX
  | ctxWriteY
  | ctxVisW
  | ctxVisH
  | ctxRightClip
  | ctxKey
  /-- Offsets `0x60` to `0xFC` (10_state.md R34). -/
  | reserved
  deriving DecidableEq, Repr

/-- The register at an offset of the block (30_encoding.md R90). -/
def Reg.ofOffset (offset : Nat) : Reg :=
  match offset with
  | 0x00 => .ctrl
  | 0x04 => .status
  | 0x08 => .lastError
  | 0x0C => .cacheInfo
  | 0x10 => .srcBase
  | 0x14 => .srcPitch
  | 0x18 => .srcSize
  | 0x1C => .srcMode
  | 0x20 => .tgtBase
  | 0x24 => .tgtPitch
  | 0x28 => .tgtSize
  | 0x2C => .tgtMode
  | 0x30 => .posX
  | 0x34 => .posY
  | 0x38 => .colorValue
  | 0x3C => .colorChan
  | 0x40 => .ctxReadX
  | 0x44 => .ctxReadY
  | 0x48 => .ctxWriteX
  | 0x4C => .ctxWriteY
  | 0x50 => .ctxVisW
  | 0x54 => .ctxVisH
  | 0x58 => .ctxRightClip
  | 0x5C => .ctxKey
  | _ => .reserved

/-- The offset of a port access, when it is one the port answers (30_encoding.md R91): 32 bits, at a multiple of 4 in
`0x00 .. 0xFC` from `REG_BASE`. DEDUCED (safe, log entry 16): port addresses do not wrap. -/
def portOffset (p : Params) (addr bytes : Nat) : Option Nat :=
  if bytes = 4 ∧ p.regBase ≤ addr ∧ (addr - p.regBase) % 4 = 0 ∧ addr - p.regBase < 0x100 then some (addr - p.regBase)
  else none

/-- The writable bits of `SRC_MODE` and `TGT_MODE` (10_state.md R29): `GRAYS` 24:16 and `FORMAT` 3:0. -/
def modeMask : Word := 0x01FF000F

/-- The writable bits of `SRC_BASE` and `TGT_BASE` (10_state.md R26): the low `ADDR_W`. -/
def baseMask (p : Params) : Word := BitVec.ofNat 32 (2 ^ p.addrW - 1)

/-- A host write to a register that is not `CTRL`, while IDLE (10_state.md R24 to R34): reserved bits, read-only
registers and reserved offsets ignore it (30_encoding.md R91). -/
def Regs.write (p : Params) (g : Regs) (r : Reg) (v : Word) : Regs :=
  match r with
  | .lastError => { g with lastError := v }
  | .srcBase => { g with srcBase := v &&& baseMask p }
  | .srcPitch => { g with srcPitch := v }
  | .srcSize => { g with srcSize := v }
  | .srcMode => { g with srcMode := v &&& modeMask }
  | .tgtBase => { g with tgtBase := v &&& baseMask p }
  | .tgtPitch => { g with tgtPitch := v }
  | .tgtSize => { g with tgtSize := v }
  | .tgtMode => { g with tgtMode := v &&& modeMask }
  | .posX => { g with posX := v }
  | .posY => { g with posY := v }
  | .colorValue => { g with colorValue := v }
  | .colorChan => { g with colorChan := v }
  | .ctrl | .status | .cacheInfo | .ctxReadX | .ctxReadY | .ctxWriteX | .ctxWriteY | .ctxVisW | .ctxVisH
  | .ctxRightClip | .ctxKey | .reserved => g

/-- A host write to a register that is not `CTRL`: ignored while BUSY (10_state.md R39). -/
def State.writeReg (s : State) (r : Reg) (v : Word) : State :=
  match s.phase with
  | .busy => s
  | .idle => { s with regs := s.regs.write s.params r v }

/-- The register holds a value that the command in progress may or may not have written yet (70_reset_and_hazards.md
R302). -/
def Reg.midCommand : Reg → Bool
  | .cacheInfo | .ctxReadX | .ctxReadY | .ctxWriteX | .ctxWriteY | .ctxVisW | .ctxVisH | .ctxRightClip | .ctxKey => true
  | .ctrl | .status | .lastError | .srcBase | .srcPitch | .srcSize | .srcMode | .tgtBase | .tgtPitch | .tgtSize
  | .tgtMode | .posX | .posY | .colorValue | .colorChan | .reserved => false

/-- The instruction a BUSY unit has formed: the row of the key in `CTX_KEY` (45_dispatch.md R248). -/
def State.pendingInstr (s : State) : Except DecodeError Instr := decodeKey s.ctx.shownKey

/-- The kernel of the command in progress, with the state its lookups leave: `none` when the command runs no kernel
(another row, or a failing lookup). -/
def State.pendingKernel (s : State) : Option (Kernel × State) :=
  match s.phase, s.pendingInstr with
  | .busy, .ok i =>
    match kernelOf i with
    | some k =>
      match k.lookups s with
      | .ok s1 => some (k, s1)
      | .error _ => none
    | none => none
  | _, _ => none

/-- The source span of the command in progress (20_memory.md R71); empty when it runs no kernel. DEDUCED (unsafe, log
entry 8). -/
def State.pendingSource (s : State) : List Int :=
  match s.pendingKernel with
  | some (k, _) => s.srcSpan k.sf
  | none => []

/-- The target span of the command in progress (20_memory.md R71); empty when it runs no kernel. DEDUCED (unsafe, log
entries 8 and 12). -/
def State.pendingTarget (s : State) : List Int :=
  match s.pendingKernel with
  | some (k, _) => s.tgtSpan k.tf
  | none => []

/-- The cache lists as the command in progress will leave them (44_lut_cache.md R223, R227). -/
def State.cachesAfter (s : State) : List Count × List (Count × Count) :=
  match s.pendingInstr with
  | .ok i =>
    match kernelOf i with
    | some k =>
      match k.lookups s with
      | .ok s1 => (s1.sat, s1.conv)
      | .error s1 => (s1.sat, s1.conv)
    | none => (s.sat, s.conv)
  | .error _ => (s.sat, s.conv)

/-- A context register of a context. -/
def Ctx.read (c : Ctx) (r : Reg) : Word :=
  match r with
  | .ctxReadX => c.readX
  | .ctxReadY => c.readY
  | .ctxWriteX => c.writeX
  | .ctxWriteY => c.writeY
  | .ctxVisW => c.visW
  | .ctxVisH => c.visH
  | .ctxRightClip => c.rightClip
  | .ctxKey => c.key
  | .ctrl | .status | .lastError | .cacheInfo | .srcBase | .srcPitch | .srcSize | .srcMode | .tgtBase | .tgtPitch
  | .tgtSize | .tgtMode | .posX | .posY | .colorValue | .colorChan | .reserved => 0

/-- What a register holds when no command is in progress (10_state.md R22 to R35): `CTRL` and reserved offsets
read 0. -/
def State.readReg (s : State) (r : Reg) : Word :=
  match r with
  | .status => s.statusWord
  | .lastError => s.regs.lastError
  | .cacheInfo => cacheInfoWord s.params s.sat s.conv
  | .srcBase => s.regs.srcBase
  | .srcPitch => s.regs.srcPitch
  | .srcSize => s.regs.srcSize
  | .srcMode => s.regs.srcMode
  | .tgtBase => s.regs.tgtBase
  | .tgtPitch => s.regs.tgtPitch
  | .tgtSize => s.regs.tgtSize
  | .tgtMode => s.regs.tgtMode
  | .posX => s.regs.posX
  | .posY => s.regs.posY
  | .colorValue => s.regs.colorValue
  | .colorChan => s.regs.colorChan
  | .ctrl | .reserved => 0
  | .ctxReadX | .ctxReadY | .ctxWriteX | .ctxWriteY | .ctxVisW | .ctxVisH | .ctxRightClip | .ctxKey => s.ctx.read r

/-- A register's value before the command in progress. -/
def State.readBefore (s : State) (r : Reg) : Word :=
  match r with
  | .cacheInfo => cacheInfoWord s.params s.sat s.conv
  | _ => s.ctxBefore.read r

/-- A register's value after the command in progress. -/
def State.readAfter (s : State) (r : Reg) : Word :=
  match r with
  | .cacheInfo => cacheInfoWord s.params s.cachesAfter.1 s.cachesAfter.2
  | _ => s.ctx.read r

/-- The register's read is a free choice now (70_reset_and_hazards.md R302): mid-command and BUSY. -/
def State.readIsFree (s : State) (r : Reg) : Bool := (s.phase == .busy) && r.midCommand

/-- What a host read of a register returns (10_state.md R35; 70_reset_and_hazards.md R302 while BUSY). -/
def State.readPort (s : State) (r : Reg) : Word :=
  if s.readIsFree r then (if Config.freeChoice s.draws then s.readAfter r else s.readBefore r) else s.readReg r

/-- A host register read: no side effect on the block (10_state.md R35). -/
def State.hostRead (s : State) (r : Reg) : State :=
  { s with portData := s.readPort r, draws := if s.readIsFree r then s.draws + 1 else s.draws }

/-- The address lies in the memory space (20_memory.md R60). DESIGN CHOICE (safe, log entry 10). -/
def inMemorySpace (p : Params) (a : Nat) : Bool := decide (a < 2 ^ p.addrW)

/-- The address of a rule of the spec, an unbounded integer (20_memory.md R61), lies in the memory space. -/
def holdsByte (p : Params) (a : Int) : Bool := decide (0 ≤ a) && inMemorySpace p a.toNat

/-- A host memory write; one into a span of the command in progress disturbs it (20_memory.md R76). DEDUCED (unsafe,
log entry 8). -/
def State.hostMemWrite (s : State) (a : Nat) (v : Byte) : State :=
  { s with
    mem := Memory.write s.mem a v
    disturbed := s.disturbed || s.pendingSource.contains (a : Int) || s.pendingTarget.contains (a : Int) }

/-- A host memory read; one of the target span of the command in progress returns a free value and disturbs it
(20_memory.md R76). -/
def State.hostMemRead (s : State) (a : Nat) : State :=
  if s.pendingTarget.contains (a : Int) then
    { s with memData := Config.freeByte s.draws, draws := s.draws + 1, disturbed := true }
  else { s with memData := Memory.read s.mem a }

/-- The platform's reset (70_reset_and_hazards.md R290, R292): the block takes its reset state; memory keeps its
bytes, but every byte of the target span of a command in progress becomes `draw any` (an address outside the memory
space holds none, 20_memory.md R60). The host's own data and the schedule are not the block's. DEDUCED (unsafe, log
entry 12). -/
def State.resetBlock (s : State) : State :=
  let c := s.canvas.scrambleAll (s.pendingTarget.filter (holdsByte s.params))
  { State.resetWith s.params with
    mem := c.mem, draws := c.draws, schedule := s.schedule, portData := s.portData, memData := s.memData }

/-- What the next step does. -/
inductive Turn where
  /-- It runs an instruction in a state. -/
  | run (i : Instr) (s : State)
  /-- It does only what an event does by itself. -/
  | done (o : Host.Outcome State Fault Refusal)

/-- The unit's turn: a BUSY unit dispatches the key it has formed (45_dispatch.md R248); an IDLE one waits
(60_exceptions.md R284, 70_reset_and_hazards.md R293). -/
def State.unitTurn (s : State) : Turn :=
  match s.phase with
  | .idle => .done (.next s)
  | .busy =>
    match s.pendingInstr with
    | .ok i => .run i s
    | .error _ => .done (.refused (.reservedKey s.ctx.shownKey))

/-- A host write on the register port (30_encoding.md R91). A word written to `CTRL` is an instruction when its
`START` bit is set, and has no effect when not (10_state.md R22). -/
def State.portWrite (s : State) (addr bytes : Nat) (v : Word) : Turn :=
  match portOffset s.params addr bytes with
  | none => .done (.refused (.registerPortAccess addr bytes))
  | some offset =>
    match Reg.ofOffset offset with
    | .ctrl =>
      match decodeCtrl v with
      | .ok i => .run i s
      | .error _ => .done (.next s)
    | r => .done (.next (s.writeReg r v))

/-- A host read on the register port (30_encoding.md R91). -/
def State.portRead (s : State) (addr bytes : Nat) : Host.Outcome State Fault Refusal :=
  match portOffset s.params addr bytes with
  | none => .refused (.registerPortAccess addr bytes)
  | some offset => .next (s.hostRead (Reg.ofOffset offset))

/-- A state with the rest of its schedule. -/
def State.withSchedule (s : State) (l : List Event) : State := { s with schedule := l }

/-- Whose turn it is, and what it does. With no event pending the unit goes on. `POLL` reads `STATUS` and stays until
it has read `BUSY = 0`; the unit takes its turn after a read that showed `BUSY = 1` (30_encoding.md R108). DEDUCED
(safe, log entry 13). -/
def turn (s : State) : Turn :=
  match s.schedule with
  | [] => s.unitTurn
  | .unit :: rest => (s.withSchedule rest).unitTurn
  | .portWrite addr bytes v :: rest => (s.withSchedule rest).portWrite addr bytes v
  | .portRead addr bytes :: rest => .done ((s.withSchedule rest).portRead addr bytes)
  | .poll :: rest =>
    match s.phase with
    | .busy => (s.hostRead .status).unitTurn
    | .idle => .done (.next ((s.withSchedule rest).hostRead .status))
  | .memWrite a v :: rest =>
    .done (if inMemorySpace s.params a then .next ((s.withSchedule rest).hostMemWrite a v) else .fault (.noSuchMemory a))
  | .memRead a :: rest =>
    .done (if inMemorySpace s.params a then .next ((s.withSchedule rest).hostMemRead a) else .fault (.noSuchMemory a))
  | .reset :: rest => .done (.next (s.withSchedule rest).resetBlock)

/-- The offset of a writable register (30_encoding.md R90), for the host notation below. -/
def Reg.offset : Reg → Nat
  | .ctrl => 0x00
  | .status => 0x04
  | .lastError => 0x08
  | .cacheInfo => 0x0C
  | .srcBase => 0x10
  | .srcPitch => 0x14
  | .srcSize => 0x18
  | .srcMode => 0x1C
  | .tgtBase => 0x20
  | .tgtPitch => 0x24
  | .tgtSize => 0x28
  | .tgtMode => 0x2C
  | .posX => 0x30
  | .posY => 0x34
  | .colorValue => 0x38
  | .colorChan => 0x3C
  | .ctxReadX => 0x40
  | .ctxReadY => 0x44
  | .ctxWriteX => 0x48
  | .ctxWriteY => 0x4C
  | .ctxVisW => 0x50
  | .ctxVisH => 0x54
  | .ctxRightClip => 0x58
  | .ctxKey => 0x5C
  | .reserved => 0x60

/-- `WR <REG>, <value>` (30_encoding.md R108). -/
def hostWr (p : Params) (r : Reg) (v : Word) : Event := .portWrite (p.regBase + r.offset) 4 v

/-- `RD <REG>` (30_encoding.md R108). -/
def hostRd (p : Params) (r : Reg) : Event := .portRead (p.regBase + r.offset) 4

/-- `MEM <addr>: <bytes>` (30_encoding.md R108). -/
def hostMem : Nat → List Byte → List Event
  | _, [] => []
  | a, v :: rest => .memWrite a v :: hostMem (a + 1) rest

/-- `SETSRC base, pitch, w, h, fmt, grays` (30_encoding.md R108). -/
def hostSetSrc (p : Params) (base pitch w h : Word) (fmt : Format) (grays : Word) : List Event :=
  [hostWr p .srcBase base, hostWr p .srcPitch pitch, hostWr p .srcSize (h <<< 16 ||| w),
    hostWr p .srcMode (grays <<< 16 ||| fmt.code.zeroExtend 32)]

/-- `SETTGT base, pitch, w, h, fmt, grays` (30_encoding.md R108). -/
def hostSetTgt (p : Params) (base pitch w h : Word) (fmt : Format) (grays : Word) : List Event :=
  [hostWr p .tgtBase base, hostWr p .tgtPitch pitch, hostWr p .tgtSize (h <<< 16 ||| w),
    hostWr p .tgtMode (grays <<< 16 ||| fmt.code.zeroExtend 32)]

/-- `SETPOS x, y` (30_encoding.md R108). -/
def hostSetPos (p : Params) (x y : Word) : List Event := [hostWr p .posX x, hostWr p .posY y]

/-- `SETCOLOR value, r, g, b` (30_encoding.md R108). -/
def hostSetColor (p : Params) (value r g b : Word) : List Event :=
  [hostWr p .colorValue value, hostWr p .colorChan (b <<< 16 ||| g <<< 8 ||| r)]

/-- `BLIT` (30_encoding.md R108). -/
def hostBlit (p : Params) : List Event := [hostWr p .ctrl 1, .poll]

end Sys2Proof.Machine
end

