-- ==== Sys2Proof/Machine/Step.lean ====
section
/-! DEFINITION. One step: the next event, or the unit's turn, and the instruction it runs. -/

namespace Sys2Proof.Machine

/-- One step: `turn` says what happens; an instruction runs by `exec`. -/
def step (s : State) : Host.Outcome State Fault Refusal :=
  match turn s with
  | .run i s1 => exec i s1
  | .done o => o

/-- The instruction whose bits are `w` where the very next step runs it. A dispatch key (16 bits) is fetched from
`CTX_KEY` by a BUSY unit whose turn it is; a `CTRL` word (32 bits) comes from the register port of an IDLE block. -/
def State.withFetchWord (s : State) (nbits w : Nat) : State :=
  match nbits with
  | 16 =>
    { s with
      phase := .busy
      ctx := { s.ctx with key := ctxKeyWord (BitVec.ofNat 16 w) }
      schedule := match s.schedule with
        | [] => []
        | l => .unit :: l }
  | 32 =>
    { s with phase := .idle, schedule := hostWr s.params .ctrl (BitVec.ofNat 32 w) :: s.schedule }
  | _ => s

end Sys2Proof.Machine
end

