-- ==== Sys2Proof/Safety.lean ====
section
/-! DEFINITION. The machine's invariant, and what the host owes a command (spec 70_reset_and_hazards.md R297), in the
terms the statements use. -/

namespace Sys2Proof

/-- The formats of LCD sources (30_encoding.md R95). -/
def Format.isLcd : Format → Bool
  | .lcdH | .lcdHR | .lcdV | .lcdVR => true
  | .none | .mono | .pal4 | .pal8 | .gray | .rgb555 | .rgb565 | .rgb24 | .rgb32 | .rsv13 | .rsv14 | .rsv15 => false

/-- The formats valid as a source (30_encoding.md R95). -/
def Format.isSource : Format → Bool
  | .mono | .gray | .lcdH | .lcdHR | .lcdV | .lcdVR => true
  | .none | .pal4 | .pal8 | .rgb555 | .rgb565 | .rgb24 | .rgb32 | .rsv13 | .rsv14 | .rsv15 => false

/-- The eight targets of a mono source (45_dispatch.md R249). -/
def Format.isMonoTarget : Format → Bool
  | .mono | .pal4 | .pal8 | .gray | .rgb555 | .rgb565 | .rgb24 | .rgb32 => true
  | .none | .lcdH | .lcdHR | .lcdV | .lcdVR | .rsv13 | .rsv14 | .rsv15 => false

/-- The colour targets of a gray source (45_dispatch.md R250). -/
def Format.isColourTarget : Format → Bool
  | .rgb555 | .rgb565 | .rgb24 | .rgb32 => true
  | .none | .mono | .pal4 | .pal8 | .gray | .lcdH | .lcdHR | .lcdV | .lcdVR | .rsv13 | .rsv14 | .rsv15 => false

end Sys2Proof

namespace Sys2Proof.Machine

/-- The status fields are those of one row of 60_exceptions.md R270. -/
def Status.wf (st : Status) : Bool :=
  match st.kind with
  | .none => st.code == 0 && decide (st.path ≤ 24) && (!st.noop || st.path == 0)
  | .argument => st.code == 0xFF && !st.noop && st.path == 0
  | .targetDepth => st.code == 0xFF && !st.noop && st.path == 0
  | .sourceDepth => st.code == 0xFE && !st.noop && st.path == 0
  | .tableCache => st.code == 0xFD && !st.noop && st.path == 0

/-- `CTX_KEY` is 0, or shows a key with `KEY_VALID`; its reserved bits are 0 (10_state.md R33, 30_encoding.md R103). -/
def Ctx.keyWf (c : Ctx) : Bool :=
  c.key == 0 || (c.key == ctxKeyWord c.shownKey && c.shownKey.extractLsb' 12 4 == 0)

/-- A command is in progress and has passed steps 1 to 4 of 45_dispatch.md R240: the context registers show the clip
and the key of the operands, which cannot change before it completes (10_state.md R39). -/
structure State.Pending (s : State) : Prop where
  notDone : s.status.done = false
  notNull : s.nullBitmap = false
  notZero : s.zeroSize = false
  context : ∃ c, s.clip = some c ∧ s.ctx = c.ctx s.formKey

/-- The invariant of the machine: what every state reached from reset satisfies. -/
structure State.Inv (s : State) : Prop where
  /-- The parameters are legal (00_scope.md R3). -/
  params : s.params.legal = true
  /-- Memory is in canonical form. -/
  memory : Memory.wf s.mem = true
  /-- Every listed byte lies in the memory space (20_memory.md R60). -/
  space : ∀ cell ∈ s.mem, cell.1 < 2 ^ s.params.addrW
  /-- Reserved bits of the bases are 0 (10_state.md R26). -/
  srcBase : s.regs.srcBase.toNat < 2 ^ s.params.addrW
  tgtBase : s.regs.tgtBase.toNat < 2 ^ s.params.addrW
  /-- Reserved bits of the modes are 0 (10_state.md R29). -/
  srcMode : s.regs.srcMode &&& ~~~modeMask = 0
  tgtMode : s.regs.tgtMode &&& ~~~modeMask = 0
  /-- The caches are bounded, hold a key once, and hold valid counts only (44_lut_cache.md R220, R225). -/
  satCap : s.sat.length ≤ s.params.satCap
  satNodup : s.sat.Nodup
  satValid : ∀ g ∈ s.sat, validCount g = true
  convCap : s.conv.length ≤ s.params.convCap
  convNodup : s.conv.Nodup
  convValid : ∀ p ∈ s.conv, validCount p.1 = true ∧ validCount p.2 = true ∧ p.1 ≠ p.2
  /-- The status fields are those of one outcome (60_exceptions.md R270). -/
  status : s.status.wf = true
  /-- `CTX_KEY` is well formed. -/
  key : s.ctx.keyWf = true
  /-- While BUSY the context is that of the operands. -/
  busy : s.phase = .busy → s.Pending
  /-- While IDLE no command is disturbed. -/
  idle : s.phase = .idle → s.disturbed = false

/-- Duty 1 of 70_reset_and_hazards.md R297 for a kernel of formats `sf`, `tf`: the port admits every byte of the
access set. -/
def State.Admitted (s : State) (sf tf : Format) : Prop :=
  ∀ a ∈ s.srcSpan sf ++ s.tgtSpan tf, admits s.params a = true

/-- Duty 5 of 70_reset_and_hazards.md R297, and R296: the spans share no byte, and the host has not touched them. -/
structure State.Undisturbed (s : State) (sf tf : Format) : Prop where
  apart : ∀ a ∈ s.srcSpan sf, a ∉ s.tgtSpan tf
  quiet : s.disturbed = false

/-- A command whose spans are admitted, disjoint and untouched. -/
structure State.Ready (s : State) (sf tf : Format) : Prop where
  admitted : s.Admitted sf tf
  undisturbed : s.Undisturbed sf tf

/-- Distinct visible pixels hold distinct bytes of the target: its rows do not overlap in memory. -/
def State.PixelsApart (s : State) (tf : Format) : Prop :=
  ∀ p ∈ s.visible, ∀ q ∈ s.visible, p ≠ q → ∀ a ∈ s.tgtBytes tf p, a ∉ s.tgtBytes tf q

/-- The bits of a register that a host write changes (30_encoding.md R90); a register with none is read-only,
reserved, or `CTRL`, which holds nothing. -/
def Reg.writableBits (p : Params) : Reg → Word
  | .lastError | .srcPitch | .srcSize | .tgtPitch | .tgtSize | .posX | .posY | .colorValue | .colorChan => 0xFFFFFFFF
  | .srcBase | .tgtBase => baseMask p
  | .srcMode | .tgtMode => modeMask
  | .ctrl | .status | .cacheInfo | .ctxReadX | .ctxReadY | .ctxWriteX | .ctxWriteY | .ctxVisW | .ctxVisH
  | .ctxRightClip | .ctxKey | .reserved => 0

/-- The host may write the register (access `RW` in 30_encoding.md R90). -/
def Reg.isWritable : Reg → Bool
  | .lastError | .srcBase | .srcPitch | .srcSize | .srcMode | .tgtBase | .tgtPitch | .tgtSize | .tgtMode | .posX
  | .posY | .colorValue | .colorChan => true
  | .ctrl | .status | .cacheInfo | .ctxReadX | .ctxReadY | .ctxWriteX | .ctxWriteY | .ctxVisW | .ctxVisH
  | .ctxRightClip | .ctxKey | .reserved => false

/-- What a completed kernel leaves of a state but for memory, free values and the cache lists (60_exceptions.md
R271). -/
def State.completed (s : State) (id : BitVec 5) : State :=
  { s with
    status := { done := true, noop := false, code := 0, kind := .none, path := id }
    phase := .idle
    disturbed := false }

/-- From `s` to `t` the byte at `a` became `draw any`: it holds one of the free values drawn between (00_scope.md R7,
93_implementation_defined.md U1 to U6; log entry 4). -/
def State.Drew (s t : State) (a : Int) : Prop :=
  ∃ n, s.draws ≤ n ∧ n < t.draws ∧ t.byteAt a = Config.freeByte n

/-- From `s` to `t` every byte at the addresses `l` became `draw any`, each by a draw of its own, and memory is else
unchanged (00_scope.md R7, 93_implementation_defined.md U4 to U6). -/
structure State.Freed (s t : State) (l : List Int) : Prop where
  memory : t.mem = (s.canvas.scrambleAll l).mem
  draws : t.draws = s.draws + l.length
  free : Memory.wf s.mem = true → ∀ a ∈ l, s.Drew t a

/-- The 16-bit pixel at an address (20_memory.md R62). -/
def State.pixel16 (s : State) (a : Int) : BitVec 16 := rd16 (s.byteAt a) (s.byteAt (a + 1))

/-- The source bit of a visible pixel of a 1-bit source (41_mono.md R140). -/
def State.sourceBitAt (s : State) (p : Pixel) : Bool :=
  (s.byteAt (s.srcRow (s.srcY p) + (s.srcX p / 8 : Nat))).getLsbD (7 - s.srcX p % 8)

/-- The coverage byte of a visible pixel of a gray source (42_gray.md R170). -/
def State.coverageAt (s : State) (p : Pixel) : Nat := (s.byteAt (s.srcRow (s.srcY p) + s.srcX p)).toNat

/-- Where the target pixel of a visible pixel begins, for pixels of `size` bytes (20_memory.md R68). -/
def State.tgtAddr (s : State) (size : Nat) (p : Pixel) : Int := s.tgtRow (s.tgtY p) + size * s.tgtX p

end Sys2Proof.Machine
end

