-- ==== Sys2Proof/Certificates/Slice0/Obligations.lean ====
section
/-! DEFINITION. The statements for the provers. Each formalises what the spec says an instruction or the machine does;
OBLIGATIONS.json names its rule. -/

open Sys2Proof Sys2Proof.Machine

/-! ### Encodings -/

/-- Decode and encode agree, every operand at every value: an instruction is read back from its word, and a word that
decodes is the encoding of what it decodes to, so that no bit is dropped. -/
def Obligations.DecodeAndEncodeAgree : Prop :=
  (∀ i : Instr, decode (encode i) = .ok i) ∧ ∀ (c : Code) (i : Instr), decode c = .ok i → encode i = c

/-- The dispatch table: a key with bits 15:12 = 0 matches exactly one row, and the decoder gives that row's
instruction. -/
def Obligations.EveryKeyMatchesOneRow : Prop :=
  ∀ k : Key, k.extractLsb' 12 4 = 0 →
    ∃ r ∈ dispatchTable, r.selects k = true ∧ (∀ q ∈ dispatchTable, q.selects k = true → q = r) ∧
      ∃ i, decodeKey k = .ok i ∧ i.mnemonic = r.mnemonic

/-- R102: each field of the formed key, bit by bit. -/
def Obligations.KeyFieldsFollowTheRegisters : Prop :=
  ∀ s : State,
    s.formKey.extractLsb' 0 4 = s.regs.srcMode.extractLsb' 0 4 ∧
    s.formKey.extractLsb' 4 4 = s.regs.tgtMode.extractLsb' 0 4 ∧
    (s.formKey.getLsbD 8 = true ↔ 2 ≤ s.srcGrays.toNat ∧ s.srcGrays.toNat ≤ 256) ∧
    (s.formKey.getLsbD 9 = true ↔ s.srcGrays.toNat = 256) ∧
    (s.formKey.getLsbD 10 = true ↔ 2 ≤ s.tgtGrays.toNat ∧ s.tgtGrays.toNat ≤ 256) ∧
    (s.formKey.getLsbD 11 = true ↔ s.srcGrays.toNat = s.tgtGrays.toNat) ∧
    s.formKey.extractLsb' 12 4 = 0

/-- R103: no reserved key is ever formed, a key with `S256` has `SG2`, and every key with bits 15:12 = 0 is decoded
(a reserved one is not). A formed key is the key of a well-formed instruction. -/
def Obligations.ReservedKeysAreNeverFormed : Prop :=
  (∀ s : State, s.formKey.extractLsb' 12 4 = 0 ∧ (s.formKey.getLsbD 9 = true → s.formKey.getLsbD 8 = true) ∧
    ∃ i, decodeKey s.formKey = .ok i ∧ i.wellFormed = true) ∧
  ∀ k : Key, (∃ i, decodeKey k = .ok i) ↔ k.extractLsb' 12 4 = 0

/-- A sanity check: words written out from the encodings of the spec decode to what they stand for. -/
def Obligations.SpecWordsDecode : Prop :=
  decode (.key 0b0000100000010001) = .ok (.m2m true false false false) ∧
  decode (.key 0b0000001110110100) = .ok (.g8r24 false false) ∧
  decode (.key 0b0000110101000100) = .ok (.g2gSame false) ∧
  decode (.key 0b0000000110110101) = .ok (.lcdh false false) ∧
  decode (.key 0b0000100010110011) = .ok (.errSrcPal8Any true false false false .rgb24) ∧
  decode (.key 0b0001000000010001) = .error .reservedKey ∧
  decode (.ctrl 1) = .ok (.start 0) ∧
  decode (.ctrl 0xFFFFFFFE) = .error .noStart

/-- The gray branch of R250, from the counts and the target format of the registers. -/
def Obligations.GraySourcesTakeTheGrayBranch : Prop :=
  ∀ s : State, s.srcFormat = .gray →
    ∃ i, decodeKey s.formKey = .ok i ∧
      if validCount s.srcGrays = false then ∃ a b c f, i = .errArgGrayAny a b c f
      else if s.tgtFormat = .gray then
        if validCount s.tgtGrays = false then ∃ a b, i = .errTgtGrayBadcount a b
        else if s.srcGrays = s.tgtGrays then ∃ a, i = .g2gSame a
        else ∃ a, i = .g2gConv a
      else if s.tgtFormat.isColourTarget = true then
        ∃ k, kernelOf i = some k ∧ k.sf = .gray ∧ k.tf = s.tgtFormat ∧
          if s.srcGrays.toNat = 256 then 13 ≤ k.id.toNat ∧ k.id.toNat ≤ 16 else 9 ≤ k.id.toNat ∧ k.id.toNat ≤ 12
      else ∃ a b c, i = .errTgtGrayNone a b c ∨ i = .errTgtGrayMono a b c ∨ i = .errTgtGrayPal4 a b c ∨
        i = .errTgtGrayPal8 a b c ∨ i = .errTgtGrayLcdH a b c ∨ i = .errTgtGrayLcdHR a b c ∨
        i = .errTgtGrayLcdV a b c ∨ i = .errTgtGrayLcdVR a b c ∨ i = .errTgtGrayRsv13 a b c ∨
        i = .errTgtGrayRsv14 a b c ∨ i = .errTgtGrayRsv15 a b c

/-! ### The register port -/

/-- A host write to a writable register of an IDLE block: the register holds the written bits, every other register
reads as before, and nothing else changes. -/
def Obligations.RegisterHoldsWhatIsWritten : Prop :=
  ∀ (s : State) (r : Reg) (v : Word) (rest : List Event), s.phase = .idle → r.isWritable = true →
    s.schedule = hostWr s.params r v :: rest →
    ∃ t, step s = .next t ∧ t = { s with regs := t.regs, schedule := rest } ∧
      t.readReg r = v &&& r.writableBits s.params ∧ ∀ q, q ≠ r → t.readReg q = s.readReg q

/-- Writes to read-only registers and reserved offsets, and `CTRL` writes with `START = 0`, change nothing. -/
def Obligations.ReadOnlyWritesAreIgnored : Prop :=
  ∀ (s : State) (offset : Nat) (v : Word) (rest : List Event), offset % 4 = 0 → offset < 0x100 →
    (Reg.ofOffset offset).isWritable = false → (Reg.ofOffset offset = .ctrl → v.getLsbD 0 = false) →
    s.schedule = .portWrite (s.params.regBase + offset) 4 v :: rest → step s = .next { s with schedule := rest }

/-- R39: while BUSY every write to the register block is ignored, `CTRL.START` and `LAST_ERROR` included, and every
read is answered; so no register changes, and `START` queues no command. -/
def Obligations.RegisterWritesAreIgnoredWhileBusy : Prop :=
  ∀ (s : State) (offset : Nat) (rest : List Event), s.phase = .busy → offset % 4 = 0 → offset < 0x100 →
    (∀ v, s.schedule = .portWrite (s.params.regBase + offset) 4 v :: rest →
      step s = .next { s with schedule := rest }) ∧
    (s.schedule = .portRead (s.params.regBase + offset) 4 :: rest →
      ∃ t, step s = .next t ∧ t = { s with schedule := rest, portData := t.portData, draws := t.draws }) ∧
    ∀ w : BitVec 31, exec (.start w) s = .next s

/-- The port refuses an access that is not 32 bits at a multiple of 4 in the register block. -/
def Obligations.OtherPortAccessesAreRefused : Prop :=
  ∀ (s : State) (addr bytes : Nat) (v : Word) (rest : List Event),
    (bytes ≠ 4 ∨ addr < s.params.regBase ∨ (addr - s.params.regBase) % 4 ≠ 0 ∨ 0x100 ≤ addr - s.params.regBase) →
    (s.schedule = .portWrite addr bytes v :: rest ∨ s.schedule = .portRead addr bytes :: rest) →
    step s = .refused (.registerPortAccess addr bytes)

/-- The register map (R22 to R34, 30_encoding.md R90): which register stands at each offset and what it reads when no
command is in progress; `CTRL` and the offsets `0x60` to `0xFC` read 0. A host read of an IDLE block returns the
register at its offset and has no side effect on the block (R35). -/
def Obligations.RegisterReadHasNoSideEffect : Prop :=
  (∀ s : State, ∀ q ∈ [(0x00, Reg.ctrl, (0 : Word)), (0x04, .status, s.statusWord),
      (0x08, .lastError, s.regs.lastError),
      (0x0C, .cacheInfo, cacheInfoWord s.params s.sat s.conv), (0x10, .srcBase, s.regs.srcBase),
      (0x14, .srcPitch, s.regs.srcPitch), (0x18, .srcSize, s.regs.srcSize), (0x1C, .srcMode, s.regs.srcMode),
      (0x20, .tgtBase, s.regs.tgtBase), (0x24, .tgtPitch, s.regs.tgtPitch), (0x28, .tgtSize, s.regs.tgtSize),
      (0x2C, .tgtMode, s.regs.tgtMode), (0x30, .posX, s.regs.posX), (0x34, .posY, s.regs.posY),
      (0x38, .colorValue, s.regs.colorValue), (0x3C, .colorChan, s.regs.colorChan), (0x40, .ctxReadX, s.ctx.readX),
      (0x44, .ctxReadY, s.ctx.readY), (0x48, .ctxWriteX, s.ctx.writeX), (0x4C, .ctxWriteY, s.ctx.writeY),
      (0x50, .ctxVisW, s.ctx.visW), (0x54, .ctxVisH, s.ctx.visH), (0x58, .ctxRightClip, s.ctx.rightClip),
      (0x5C, .ctxKey, s.ctx.key)],
    q.2.1.offset = q.1 ∧ Reg.ofOffset q.1 = q.2.1 ∧ s.readReg q.2.1 = q.2.2) ∧
  (∀ (s : State) (offset : Nat), 0x60 ≤ offset → s.readReg (Reg.ofOffset offset) = 0) ∧
  ∀ (s : State) (offset : Nat) (rest : List Event), s.phase = .idle → offset % 4 = 0 → offset < 0x100 →
    s.schedule = .portRead (s.params.regBase + offset) 4 :: rest →
    step s = .next { s with schedule := rest, portData := s.readReg (Reg.ofOffset offset) }

/-- R302: while BUSY a read of `STATUS` shows `BUSY = 1`, `DONE = 0` and the other fields as stored; a read of
`CTX_*` or `CACHE_INFO` returns its value before the command or after it; any other register its value. The value
after is what the register reads when the unit's turn has completed the command; the value before is what it read when
`START` began it, kept in the model's own field (log entry 7). -/
def Obligations.ReadsWhileBusy : Prop :=
  (∀ (s u : State) (r : Reg), s.phase = .busy → r.midCommand = true → step { s with schedule := [] } = .next u →
    s.readAfter r = u.readReg r) ∧
  (∀ (s t : State) (r : Reg) (w : BitVec 31), s.phase = .idle → r.midCommand = true → exec (.start w) s = .next t →
    t.readBefore r = s.readReg r) ∧
  ∀ (s : State) (r : Reg) (rest : List Event), s.Inv → s.phase = .busy → s.schedule = hostRd s.params r :: rest →
    ∃ t, step s = .next t ∧ t = { s with schedule := rest, portData := t.portData, draws := t.draws } ∧
      (r = .status → t.portData.getLsbD 0 = true ∧ t.portData.getLsbD 1 = false ∧
        t.portData.getLsbD 2 = s.status.noop ∧ t.portData.extractLsb' 8 8 = s.status.code ∧
        t.portData.extractLsb' 16 4 = s.status.kind.code ∧ t.portData.extractLsb' 24 5 = s.status.path) ∧
      (r.midCommand = true → t.portData = s.readBefore r ∨ t.portData = s.readAfter r) ∧
      (r.midCommand = false → t.portData = s.readReg r)

/-- R23 and R25. When `STATUS` is written: while BUSY it keeps the previous command's fields, with `DONE` cleared by the
step that starts the command; a step that leaves the block IDLE keeps it, or completes a command, which sets `DONE`, has
`NOOP` exactly when the status is 0 and no kernel ran, and has in `PATH` the kernel that ran to its end, or 0. Then the
fields of the words that reads of `STATUS` and `CACHE_INFO` return; reserved bits read 0. In a machine that meets the
invariant the values of the fields are those of R23 and R270, and the list lengths and the caps fit their fields. -/
def Obligations.StatusAndCacheInfoHaveTheirFields : Prop :=
  (∀ s t : State, step s = .next t → (∀ rest, s.schedule ≠ .reset :: rest) →
    (t.phase = .busy → t.status = if s.phase = .busy then s.status else { s.status with done := false }) ∧
    (t.phase = .idle → (s.phase = .idle ∧ t.status = s.status) ∨
      (t.status.done = true ∧ (t.status.noop = true ↔ t.status.code = 0 ∧ t.status.path = 0) ∧
        (s.phase = .idle → t.status.path = 0 ∧ ∃ w l, exec (.start w) (s.withSchedule l) = .next t) ∧
        (s.phase = .busy → ∃ i, decodeKey s.ctx.shownKey = .ok i ∧
          t.status.path = if t.status.code = 0 then (kernelOf i).elim 0 Kernel.id else 0)))) ∧
  (∀ s : State,
    (s.statusWord.getLsbD 0 = true ↔ s.phase = .busy) ∧ s.statusWord.getLsbD 1 = s.status.done ∧
    s.statusWord.getLsbD 2 = s.status.noop ∧ s.statusWord.extractLsb' 3 5 = 0 ∧
    s.statusWord.extractLsb' 8 8 = s.status.code ∧ s.statusWord.extractLsb' 16 4 = s.status.kind.code ∧
    s.statusWord.extractLsb' 20 4 = 0 ∧ s.statusWord.extractLsb' 24 5 = s.status.path ∧
    s.statusWord.extractLsb' 29 3 = 0) ∧
  ∀ s : State, s.Inv →
    (s.status.kind.code.toNat = 0 ∧ s.status.code = 0 ∧ s.status.path.toNat ≤ 24 ∨
      (s.status.kind.code.toNat = 1 ∨ s.status.kind.code.toNat = 2) ∧ s.status.code = 0xFF ∧ s.status.path = 0 ∨
      s.status.kind.code.toNat = 3 ∧ s.status.code = 0xFE ∧ s.status.path = 0 ∨
      s.status.kind.code.toNat = 4 ∧ s.status.code = 0xFD ∧ s.status.path = 0) ∧
    (s.status.noop = true → s.status.code = 0 ∧ s.status.path = 0) ∧
    ((s.readReg .cacheInfo).extractLsb' 0 8).toNat = s.sat.length ∧
    ((s.readReg .cacheInfo).extractLsb' 8 8).toNat = s.conv.length ∧
    ((s.readReg .cacheInfo).extractLsb' 16 8).toNat = s.params.satCap ∧
    ((s.readReg .cacheInfo).extractLsb' 24 8).toNat = s.params.convCap

/-! ### START -/

/-- R243: a null descriptor ends the command with -1 `ArgumentError`, before every other check. -/
def Obligations.NullBitmapIsAnArgumentError : Prop :=
  ∀ (s : State) (w : BitVec 31), s.phase = .idle → s.srcBase = 0 ∨ s.tgtBase = 0 →
    ∃ t, exec (.start w) s = .next t ∧ t.statusWord = 0x0001FF02 ∧ t.regs.lastError = 0xFFFFFFFF ∧ t.ctx = .zero ∧
      t = { s with
        regs := { s.regs with lastError := t.regs.lastError }, status := t.status, ctx := .zero, ctxBefore := s.ctx
        disturbed := false }

/-- R245: a source of stored size zero ends the command with status 0 and `NOOP`, whatever its formats. -/
def Obligations.ZeroSizeSourceIsANoop : Prop :=
  ∀ (s : State) (w : BitVec 31), s.phase = .idle → s.srcBase ≠ 0 → s.tgtBase ≠ 0 →
    s.srcWidth = 0 ∨ s.srcHeight = 0 →
    ∃ t, exec (.start w) s = .next t ∧ t.statusWord = 0x00000006 ∧
      t = { s with status := t.status, ctx := .zero, ctxBefore := s.ctx, disturbed := false }

/-- R246: a clipped-away command ends with status 0 and `NOOP`, whatever its formats. -/
def Obligations.ClippedCommandIsANoop : Prop :=
  ∀ (s : State) (w : BitVec 31), s.phase = .idle → s.srcBase ≠ 0 → s.tgtBase ≠ 0 → s.srcWidth ≠ 0 →
    s.srcHeight ≠ 0 → s.clip = none →
    ∃ t, exec (.start w) s = .next t ∧ t.statusWord = 0x00000006 ∧
      t = { s with status := t.status, ctx := .zero, ctxBefore := s.ctx, disturbed := false }

/-- R242 and R247: a command that passes clipping is BUSY, `DONE` is cleared, the other fields of `STATUS` are the
previous command's, the context registers show the clip, and `CTX_KEY` shows the key with `KEY_VALID`. -/
def Obligations.StartFormsTheDispatchKey : Prop :=
  ∀ (s : State) (w : BitVec 31) (c : Clip), s.phase = .idle → s.srcBase ≠ 0 → s.tgtBase ≠ 0 → s.srcWidth ≠ 0 →
    s.srcHeight ≠ 0 → s.clip = some c →
    ∃ t, exec (.start w) s = .next t ∧
      t = { s with
        phase := .busy, status := { s.status with done := false }, ctx := t.ctx, ctxBefore := s.ctx
        disturbed := false } ∧
      t.ctx.key.toNat = 2 ^ 31 + s.formKey.toNat ∧
      (t.ctx.readX.toNat : Int) = c.readX ∧ (t.ctx.readY.toNat : Int) = c.readY ∧
      (t.ctx.writeX.toNat : Int) = c.writeX ∧ (t.ctx.writeY.toNat : Int) = c.writeY ∧
      (t.ctx.visW.toNat : Int) = c.visW ∧ (t.ctx.visH.toNat : Int) = c.visH ∧
      (t.ctx.rightClip.toNat : Int) = c.rightClip

/-! ### Clipping -/

/-- R128: what is drawn is not empty and lies inside the addressable source and the rounded target. -/
def Obligations.ClipLiesInsideSourceAndTarget : Prop :=
  ∀ (sf tf : Format) (sw sh tw th : Nat) (x y : Int) (c : Clip), Machine.clip sf tf sw sh tw th x y = some c →
    1 ≤ c.visW ∧ 1 ≤ c.visH ∧ 0 ≤ c.readX ∧ 0 ≤ c.readY ∧ 0 ≤ c.writeX ∧ 0 ≤ c.writeY ∧
    c.readX + c.visW ≤ addressableWidth sf sw ∧ c.readY + c.visH ≤ addressableHeight sf sh ∧
    c.writeX + c.visW ≤ roundedWidth tf tw ∧ c.writeY + c.visH ≤ th

/-- R121 to R128 in closed form: the addressable extent and the rounded width, exactly when nothing is drawn, and the
cursors, remainder and extents of what is. That the right edge is clipped at the rounded width (R126) is the spec's own
reading (D10). -/
def Obligations.ClipFollowsTheRules : Prop :=
  (∀ (f : Format) (n : Nat), let a := addressableWidth f n; let r := roundedWidth f n; let h := addressableHeight f n
    (f = .mono → 8 ∣ a ∧ n ≤ a ∧ a < n + 8) ∧ (f = .pal4 → 2 ∣ a ∧ n ≤ a ∧ a < n + 2) ∧
    (f = .lcdH ∨ f = .lcdHR → 3 * a ≤ n ∧ n < 3 * a + 3) ∧
    (f ≠ .mono → f ≠ .pal4 → f ≠ .lcdH → f ≠ .lcdHR → a = n) ∧
    (f = .lcdV ∨ f = .lcdVR → 3 * h ≤ n ∧ n < 3 * h + 3) ∧ (f ≠ .lcdV → f ≠ .lcdVR → h = n) ∧
    (f = .mono ∨ f = .pal4 → r = a) ∧ (f ≠ .mono → f ≠ .pal4 → r = n)) ∧
  ∀ (sf tf : Format) (sw sh tw th : Nat) (x y : Int),
    (Machine.clip sf tf sw sh tw th x y = none ↔
      addressableWidth sf sw = 0 ∨ addressableHeight sf sh = 0 ∨ x + addressableWidth sf sw ≤ 0 ∨ (tw : Int) ≤ x ∨
        y + addressableHeight sf sh ≤ 0 ∨ (th : Int) ≤ y ∨ tw = 0 ∨ th = 0) ∧
    ∀ c : Clip, Machine.clip sf tf sw sh tw th x y = some c →
      c.readX = max (-x) 0 ∧ c.writeX = max x 0 ∧ c.readY = max (-y) 0 ∧ c.writeY = max y 0 ∧
      c.rightClip = max (x + addressableWidth sf sw - roundedWidth tf tw) 0 ∧
      c.visW = min (x + addressableWidth sf sw) (roundedWidth tf tw) - max x 0 ∧
      c.visH = min (y + addressableHeight sf sh) th - max y 0

/-! ### Blend laws and tables -/

/-- The general blend (R171): the step from the target is the quotient of `c * (f - t) + m div 2` by `m`, truncated
toward zero. It stays between the target and the fill, and is the target at coverage 0; at full coverage it is the fill
when that is not darker or `m = 1`, and the fill plus one when it is darker and `2 ≤ m`. -/
def Obligations.GeneralBlendLaw : Prop :=
  (∀ t f c m : Nat, 1 ≤ m →
    let product : Int := c * ((f : Int) - t) + ((m / 2 : Nat) : Int)
    let delta : Int := blend t f c m - t
    (0 ≤ product → delta * m ≤ product ∧ product < (delta + 1) * m) ∧
    (product < 0 → (delta - 1) * m < product ∧ product ≤ delta * m)) ∧
  (∀ t f : Nat, blend t f 1 1 = f) ∧
  (∀ t f c m : Nat, 1 ≤ m → c ≤ m → min (t : Int) f ≤ blend t f c m ∧ blend t f c m ≤ max (t : Int) f ∧
    blend t f 0 m = t) ∧
  ∀ t f m : Nat, 2 ≤ m → (t ≤ f → blend t f m m = f) ∧ (f < t → blend t f m m = f + 1)

/-- The fast blend (R178): the step from the target is the floor of `v * (f - t) / 256`, also when the product is
negative. It stays between the target and the fill. -/
def Obligations.FastBlendStaysBetweenTargetAndFill : Prop :=
  (∀ t f v : Nat, 256 * (fblend t f v - t) ≤ v * ((f : Int) - t) ∧
    v * ((f : Int) - t) < 256 * (fblend t f v - t + 1)) ∧
  ∀ t f v : Nat, v < 256 → min (t : Int) f ≤ fblend t f v ∧ fblend t f v ≤ max (t : Int) f

/-- R221: the saturation table, entry by entry, for a count of at least 1. -/
def Obligations.SaturationTableEntries : Prop :=
  ∀ g k : Nat, 1 ≤ g → (k ≤ g - 1 → satEntry g k = some k) ∧
    (g ≤ k → k ≤ 3 * g - 2 → satEntry g k = some (g - 1)) ∧ (3 * g - 2 < k → satEntry g k = none)

/-- R222: the conversion table, entry by entry: floor of the rescaled index, 0 at 0, the largest at the largest, and
never above it. -/
def Obligations.ConversionTableEntries : Prop :=
  ∀ gt gs i : Nat, 2 ≤ gt → 2 ≤ gs →
    (gs - 1 < i → convEntry gt gs i = none) ∧
    (i ≤ gs - 1 → ∃ e, convEntry gt gs i = some e ∧ e * (gs - 1) ≤ i * (gt - 1) ∧ i * (gt - 1) < (e + 1) * (gs - 1) ∧
      e ≤ gt - 1 ∧ (i = 0 → e = 0) ∧ (i = gs - 1 → e = gt - 1))

/-! ### Kernels: completion, frame, faults -/

/-- Every kernel row (`M2M` to `LCDVR`, 24 constructors) whose tables are to be had and whose access set is admitted
completes with status 0 and its kernel id. Registers, context, parameters and the schedule are unchanged; every byte
outside the target span reads as before. Overlapping spans (R75) and disturbed commands (R76) complete too, and free
every byte of the target span. -/
def Obligations.KernelRowsCompleteAndKeepTheRest : Prop :=
  ∀ (i : Instr) (k : Kernel) (s s1 : State), kernelOf i = some k → k.lookups s = .ok s1 → s.Admitted k.sf k.tf →
    ∃ t, exec i s = .next t ∧ t.statusWord = BitVec.ofNat 32 (k.id.toNat * 2 ^ 24 + 2) ∧
      t = { s.completed k.id with mem := t.mem, draws := t.draws, sat := s1.sat, conv := s1.conv } ∧
      (k.tables = .none → t.sat = s.sat ∧ t.conv = s.conv) ∧
      (s.disturbed = true ∨ (∃ a ∈ s.srcSpan k.sf, a ∈ s.tgtSpan k.tf) → s.Freed t (s.tgtSpan k.tf)) ∧
      ∀ n : Nat, (n : Int) ∉ s.tgtSpan k.tf → Memory.read t.mem n = Memory.read s.mem n

/-- R276: a kernel row whose tables are to be had and whose access set holds an unadmitted address ends in the bus
fault of the lowest one. -/
def Obligations.UnadmittedAddressIsABusFault : Prop :=
  ∀ (i : Instr) (k : Kernel) (s s1 : State) (a : Int), kernelOf i = some k → k.lookups s = .ok s1 →
    a ∈ s.srcSpan k.sf ++ s.tgtSpan k.tf → admits s.params a = false →
    (∀ b ∈ s.srcSpan k.sf ++ s.tgtSpan k.tf, admits s.params b = false → a ≤ b) →
    exec i s = .fault (.busFault a)

/-- R141: `M2M` ORs each visible source bit into its target bit; every other bit keeps its value. Target rows may
overlap in memory. -/
def Obligations.MonoToMonoOrsSourceBits : Prop :=
  ∀ (geq tg2 s256 sg2 : Bool) (s : State), Memory.wf s.mem = true → s.Ready .mono .mono →
    ∃ t, exec (.m2m geq tg2 s256 sg2) s = .next t ∧ t = { s.completed 1 with mem := t.mem } ∧
      ∀ n b : Nat, b < 8 →
        ((Memory.read t.mem n).getLsbD b = true ↔ (Memory.read s.mem n).getLsbD b = true ∨
          ∃ p ∈ s.visible, s.sourceBitAt p = true ∧ (n : Int) = s.tgtRow (s.tgtY p) + (s.tgtX p / 8 : Nat) ∧
            b = 7 - s.tgtX p % 8)

/-- R142: `M2P4` writes the low nibble of `COLOR_VALUE` into the nibble of each set pixel; every other nibble keeps its
value. -/
def Obligations.MonoToPalette4WritesNibbles : Prop :=
  ∀ (geq tg2 s256 sg2 : Bool) (s : State), Memory.wf s.mem = true → s.Ready .mono .pal4 →
    ∃ t, exec (.m2p4 geq tg2 s256 sg2) s = .next t ∧ t = { s.completed 2 with mem := t.mem } ∧
      ∀ n : Nat,
        (Memory.read t.mem n).extractLsb' 4 4 =
          (if ∃ p ∈ s.visible, s.sourceBitAt p = true ∧ (n : Int) = s.tgtRow (s.tgtY p) + (s.tgtX p / 2 : Nat) ∧
              s.tgtX p % 2 = 0 then s.regs.colorValue.extractLsb' 0 4
            else (Memory.read s.mem n).extractLsb' 4 4) ∧
        (Memory.read t.mem n).extractLsb' 0 4 =
          (if ∃ p ∈ s.visible, s.sourceBitAt p = true ∧ (n : Int) = s.tgtRow (s.tgtY p) + (s.tgtX p / 2 : Nat) ∧
              s.tgtX p % 2 = 1 then s.regs.colorValue.extractLsb' 0 4
            else (Memory.read s.mem n).extractLsb' 0 4)

/-- R143 and R144: `M2P8` and `M2G8` write `COLOR_VALUE[7:0]` into the byte of each set pixel; every other byte keeps
its value. -/
def Obligations.MonoToByteTargetsWriteTheColour : Prop :=
  ∀ (geq tg2 s256 sg2 : Bool) (s : State),
    ∀ r ∈ [(Instr.m2p8 geq tg2 s256 sg2, Format.pal8, 3#5), (.m2g8 geq tg2 s256 sg2, .gray, 4#5)],
    Memory.wf s.mem = true → s.Ready .mono r.2.1 →
    ∃ t, exec r.1 s = .next t ∧ t = { s.completed r.2.2 with mem := t.mem } ∧
      ∀ n : Nat, Memory.read t.mem n =
        if ∃ p ∈ s.visible, s.sourceBitAt p = true ∧ (n : Int) = s.tgtAddr 1 p then s.regs.colorValue.extractLsb' 0 8
        else Memory.read s.mem n

/-- R145 and R146: `M2R555` and `M2R565` store `COLOR_VALUE[15:0]` in each set pixel and leave a clear one. -/
def Obligations.MonoToRgb16WritesTheColour : Prop :=
  ∀ (geq tg2 s256 sg2 : Bool) (s : State),
    ∀ r ∈ [(Instr.m2r555 geq tg2 s256 sg2, Format.rgb555, 5#5), (.m2r565 geq tg2 s256 sg2, .rgb565, 6#5)],
    Memory.wf s.mem = true → s.Ready .mono r.2.1 → s.PixelsApart r.2.1 →
    ∃ t, exec r.1 s = .next t ∧ t = { s.completed r.2.2 with mem := t.mem } ∧
      (∀ n : Nat, (n : Int) ∉ s.tgtSpan r.2.1 → Memory.read t.mem n = Memory.read s.mem n) ∧
      ∀ p ∈ s.visible, t.pixel16 (s.tgtAddr 2 p) =
        if s.sourceBitAt p = true then s.regs.colorValue.extractLsb' 0 16 else s.pixel16 (s.tgtAddr 2 p)

/-- R147: `M2R24` stores the channels of `COLOR_CHAN` in each set pixel and leaves a clear one. -/
def Obligations.MonoToRgb24WritesTheChannels : Prop :=
  ∀ (geq tg2 s256 sg2 : Bool) (s : State), Memory.wf s.mem = true → s.Ready .mono .rgb24 → s.PixelsApart .rgb24 →
    ∃ t, exec (.m2r24 geq tg2 s256 sg2) s = .next t ∧ t = { s.completed 7 with mem := t.mem } ∧
      (∀ n : Nat, (n : Int) ∉ s.tgtSpan .rgb24 → Memory.read t.mem n = Memory.read s.mem n) ∧
      ∀ p ∈ s.visible,
        t.byteAt (s.tgtAddr 3 p) =
          (if s.sourceBitAt p = true then s.regs.colorChan.extractLsb' 0 8 else s.byteAt (s.tgtAddr 3 p)) ∧
        t.byteAt (s.tgtAddr 3 p + 1) =
          (if s.sourceBitAt p = true then s.regs.colorChan.extractLsb' 8 8 else s.byteAt (s.tgtAddr 3 p + 1)) ∧
        t.byteAt (s.tgtAddr 3 p + 2) =
          (if s.sourceBitAt p = true then s.regs.colorChan.extractLsb' 16 8 else s.byteAt (s.tgtAddr 3 p + 2))

/-- R148: `M2R32` stores the four bytes of `COLOR_VALUE`, lowest first, in each set pixel and leaves a clear one. -/
def Obligations.MonoToRgb32WritesTheColour : Prop :=
  ∀ (geq tg2 s256 sg2 : Bool) (s : State), Memory.wf s.mem = true → s.Ready .mono .rgb32 → s.PixelsApart .rgb32 →
    ∃ t, exec (.m2r32 geq tg2 s256 sg2) s = .next t ∧ t = { s.completed 8 with mem := t.mem } ∧
      (∀ n : Nat, (n : Int) ∉ s.tgtSpan .rgb32 → Memory.read t.mem n = Memory.read s.mem n) ∧
      ∀ p ∈ s.visible, ∀ j : Nat, j < 4 → t.byteAt (s.tgtAddr 4 p + j) =
        if s.sourceBitAt p = true then s.regs.colorValue.extractLsb' (8 * j) 8 else s.byteAt (s.tgtAddr 4 p + j)

/-- R149: every mono kernel is idempotent when the spans do not overlap: run again with the same context, it leaves
every byte as the first run left it. -/
def Obligations.MonoKernelsAreIdempotent : Prop :=
  ∀ (geq tg2 s256 sg2 : Bool) (s t u : State),
    ∀ r ∈ [(Instr.m2m geq tg2 s256 sg2, Format.mono), (.m2p4 geq tg2 s256 sg2, .pal4),
      (.m2p8 geq tg2 s256 sg2, .pal8), (.m2g8 geq tg2 s256 sg2, .gray), (.m2r555 geq tg2 s256 sg2, .rgb555),
      (.m2r565 geq tg2 s256 sg2, .rgb565), (.m2r24 geq tg2 s256 sg2, .rgb24), (.m2r32 geq tg2 s256 sg2, .rgb32)],
    Memory.wf s.mem = true → s.Ready .mono r.2 → exec r.1 s = .next t → exec r.1 t = .next u → u.mem = t.mem

/-! ### Gray kernels -/

/-- R176 with R172: `G2R24` skips coverage 0, writes the fill at full coverage, and blends each channel between; above
full coverage the pixel's bytes are `draw any` (U1). -/
def Obligations.GrayToRgb24FollowsTheGeneralLaw : Prop :=
  ∀ (geq tg2 : Bool) (s : State), Memory.wf s.mem = true → s.Ready .gray .rgb24 → s.PixelsApart .rgb24 →
    ∃ t, exec (.g2r24 geq tg2) s = .next t ∧ t = { s.completed 11 with mem := t.mem, draws := t.draws } ∧
      (∀ n : Nat, (n : Int) ∉ s.tgtSpan .rgb24 → Memory.read t.mem n = Memory.read s.mem n) ∧
      ∀ p ∈ s.visible, ∀ j : Nat, j < 3 →
        let c := s.coverageAt p
        let m := s.srcGrays.toNat - 1
        let a := s.tgtAddr 3 p + j
        let f : Byte := s.regs.colorChan.extractLsb' (8 * j) 8
        (c = 0 → t.byteAt a = s.byteAt a) ∧ (c ≠ 0 → c = m → t.byteAt a = f) ∧
        (c ≠ 0 → c < m → ((t.byteAt a).toNat : Int) = blend (s.byteAt a).toNat f.toNat c m) ∧ (m < c → s.Drew t a)

/-- R177 with R172: `G2R32` skips coverage 0, stores `COLOR_VALUE` at full coverage, and between blends B, G, R (bytes
0, 1, 2) and keeps byte 3; above full coverage the pixel's bytes are `draw any` (U1). -/
def Obligations.GrayToRgb32FollowsTheGeneralLaw : Prop :=
  ∀ (geq tg2 : Bool) (s : State), Memory.wf s.mem = true → s.Ready .gray .rgb32 → s.PixelsApart .rgb32 →
    ∃ t, exec (.g2r32 geq tg2) s = .next t ∧ t = { s.completed 12 with mem := t.mem, draws := t.draws } ∧
      (∀ n : Nat, (n : Int) ∉ s.tgtSpan .rgb32 → Memory.read t.mem n = Memory.read s.mem n) ∧
      ∀ p ∈ s.visible,
        let c := s.coverageAt p
        let m := s.srcGrays.toNat - 1
        let a := s.tgtAddr 4 p
        (c = 0 → ∀ j : Nat, j < 4 → t.byteAt (a + j) = s.byteAt (a + j)) ∧
        (c ≠ 0 → c = m → ∀ j : Nat, j < 4 → t.byteAt (a + j) = s.regs.colorValue.extractLsb' (8 * j) 8) ∧
        (c ≠ 0 → c < m → ((t.byteAt a).toNat : Int) = blend (s.byteAt a).toNat s.fillB.toNat c m ∧
          ((t.byteAt (a + 1)).toNat : Int) = blend (s.byteAt (a + 1)).toNat s.fillG.toNat c m ∧
          ((t.byteAt (a + 2)).toNat : Int) = blend (s.byteAt (a + 2)).toNat s.fillR.toNat c m ∧
          t.byteAt (a + 3) = s.byteAt (a + 3)) ∧
        (m < c → ∀ j : Nat, j < 4 → s.Drew t (a + j))

/-- R174 with R172 and R173: `G2R555` blends its 5-bit channels with the fill shifted down by 3 and keeps bit 15; above
full coverage the pixel's bytes are `draw any` (U1). -/
def Obligations.GrayToRgb555FollowsTheGeneralLaw : Prop :=
  ∀ (geq tg2 : Bool) (s : State), Memory.wf s.mem = true → s.Ready .gray .rgb555 → s.PixelsApart .rgb555 →
    ∃ t, exec (.g2r555 geq tg2) s = .next t ∧ t = { s.completed 9 with mem := t.mem, draws := t.draws } ∧
      (∀ n : Nat, (n : Int) ∉ s.tgtSpan .rgb555 → Memory.read t.mem n = Memory.read s.mem n) ∧
      ∀ p ∈ s.visible,
        let c := s.coverageAt p
        let m := s.srcGrays.toNat - 1
        let old := s.pixel16 (s.tgtAddr 2 p)
        let new := t.pixel16 (s.tgtAddr 2 p)
        (c = 0 → new = old) ∧ (c ≠ 0 → c = m → new = s.regs.colorValue.extractLsb' 0 16) ∧
        (c ≠ 0 → c < m → new.getLsbD 15 = old.getLsbD 15 ∧
          ((new.extractLsb' 10 5).toNat : Int) = blend (old.extractLsb' 10 5).toNat (s.fillR.toNat / 8) c m ∧
          ((new.extractLsb' 5 5).toNat : Int) = blend (old.extractLsb' 5 5).toNat (s.fillG.toNat / 8) c m ∧
          ((new.extractLsb' 0 5).toNat : Int) = blend (old.extractLsb' 0 5).toNat (s.fillB.toNat / 8) c m) ∧
        (m < c → ∀ j : Nat, j < 2 → s.Drew t (s.tgtAddr 2 p + j))

/-- R175 with R172 and R173: `G2R565` blends channels of 5, 6 and 5 bits with the fill shifted down by 3, 2 and 3; above
full coverage the pixel's bytes are `draw any` (U1). -/
def Obligations.GrayToRgb565FollowsTheGeneralLaw : Prop :=
  ∀ (geq tg2 : Bool) (s : State), Memory.wf s.mem = true → s.Ready .gray .rgb565 → s.PixelsApart .rgb565 →
    ∃ t, exec (.g2r565 geq tg2) s = .next t ∧ t = { s.completed 10 with mem := t.mem, draws := t.draws } ∧
      (∀ n : Nat, (n : Int) ∉ s.tgtSpan .rgb565 → Memory.read t.mem n = Memory.read s.mem n) ∧
      ∀ p ∈ s.visible,
        let c := s.coverageAt p
        let m := s.srcGrays.toNat - 1
        let old := s.pixel16 (s.tgtAddr 2 p)
        let new := t.pixel16 (s.tgtAddr 2 p)
        (c = 0 → new = old) ∧ (c ≠ 0 → c = m → new = s.regs.colorValue.extractLsb' 0 16) ∧
        (c ≠ 0 → c < m →
          ((new.extractLsb' 11 5).toNat : Int) = blend (old.extractLsb' 11 5).toNat (s.fillR.toNat / 8) c m ∧
          ((new.extractLsb' 5 6).toNat : Int) = blend (old.extractLsb' 5 6).toNat (s.fillG.toNat / 4) c m ∧
          ((new.extractLsb' 0 5).toNat : Int) = blend (old.extractLsb' 0 5).toNat (s.fillB.toNat / 8) c m) ∧
        (m < c → ∀ j : Nat, j < 2 → s.Drew t (s.tgtAddr 2 p + j))

/-- R181 and R182 with R178: `G8R24` and `G8R32` skip below 2, write the fill from 254, and blend between by the fast
law; `G8R32` keeps byte 3 on blends. -/
def Obligations.FastGrayToByteChannels : Prop :=
  ∀ (geq tg2 : Bool) (s : State), Memory.wf s.mem = true →
    (s.Ready .gray .rgb24 → s.PixelsApart .rgb24 →
      ∃ t, exec (.g8r24 geq tg2) s = .next t ∧ t = { s.completed 15 with mem := t.mem } ∧
        (∀ n : Nat, (n : Int) ∉ s.tgtSpan .rgb24 → Memory.read t.mem n = Memory.read s.mem n) ∧
        ∀ p ∈ s.visible, ∀ j : Nat, j < 3 →
          let v := s.coverageAt p
          let a := s.tgtAddr 3 p + j
          let f : Byte := s.regs.colorChan.extractLsb' (8 * j) 8
          (v < 2 → t.byteAt a = s.byteAt a) ∧ (254 ≤ v → t.byteAt a = f) ∧
          (2 ≤ v → v < 254 → ((t.byteAt a).toNat : Int) = fblend (s.byteAt a).toNat f.toNat v)) ∧
    (s.Ready .gray .rgb32 → s.PixelsApart .rgb32 →
      ∃ t, exec (.g8r32 geq tg2) s = .next t ∧ t = { s.completed 16 with mem := t.mem } ∧
        (∀ n : Nat, (n : Int) ∉ s.tgtSpan .rgb32 → Memory.read t.mem n = Memory.read s.mem n) ∧
        ∀ p ∈ s.visible,
          let v := s.coverageAt p
          let a := s.tgtAddr 4 p
          (v < 2 → ∀ j : Nat, j < 4 → t.byteAt (a + j) = s.byteAt (a + j)) ∧
          (254 ≤ v → ∀ j : Nat, j < 4 → t.byteAt (a + j) = s.regs.colorValue.extractLsb' (8 * j) 8) ∧
          (2 ≤ v → v < 254 → ((t.byteAt a).toNat : Int) = fblend (s.byteAt a).toNat s.fillB.toNat v ∧
            ((t.byteAt (a + 1)).toNat : Int) = fblend (s.byteAt (a + 1)).toNat s.fillG.toNat v ∧
            ((t.byteAt (a + 2)).toNat : Int) = fblend (s.byteAt (a + 2)).toNat s.fillR.toNat v ∧
            t.byteAt (a + 3) = s.byteAt (a + 3)))

/-- R179 and R180 with R178: `G8R555` and `G8R565` likewise on their channels; `G8R555` keeps bit 15 on blends. -/
def Obligations.FastGrayToRgb16 : Prop :=
  ∀ (geq tg2 : Bool) (s : State), Memory.wf s.mem = true →
    (s.Ready .gray .rgb555 → s.PixelsApart .rgb555 →
      ∃ t, exec (.g8r555 geq tg2) s = .next t ∧ t = { s.completed 13 with mem := t.mem } ∧
        (∀ n : Nat, (n : Int) ∉ s.tgtSpan .rgb555 → Memory.read t.mem n = Memory.read s.mem n) ∧
        ∀ p ∈ s.visible,
          let v := s.coverageAt p
          let old := s.pixel16 (s.tgtAddr 2 p)
          let new := t.pixel16 (s.tgtAddr 2 p)
          (v < 2 → new = old) ∧ (254 ≤ v → new = s.regs.colorValue.extractLsb' 0 16) ∧
          (2 ≤ v → v < 254 → new.getLsbD 15 = old.getLsbD 15 ∧
            ((new.extractLsb' 10 5).toNat : Int) = fblend (old.extractLsb' 10 5).toNat (s.fillR.toNat / 8) v ∧
            ((new.extractLsb' 5 5).toNat : Int) = fblend (old.extractLsb' 5 5).toNat (s.fillG.toNat / 8) v ∧
            ((new.extractLsb' 0 5).toNat : Int) = fblend (old.extractLsb' 0 5).toNat (s.fillB.toNat / 8) v)) ∧
    (s.Ready .gray .rgb565 → s.PixelsApart .rgb565 →
      ∃ t, exec (.g8r565 geq tg2) s = .next t ∧ t = { s.completed 14 with mem := t.mem } ∧
        (∀ n : Nat, (n : Int) ∉ s.tgtSpan .rgb565 → Memory.read t.mem n = Memory.read s.mem n) ∧
        ∀ p ∈ s.visible,
          let v := s.coverageAt p
          let old := s.pixel16 (s.tgtAddr 2 p)
          let new := t.pixel16 (s.tgtAddr 2 p)
          (v < 2 → new = old) ∧ (254 ≤ v → new = s.regs.colorValue.extractLsb' 0 16) ∧
          (2 ≤ v → v < 254 →
            ((new.extractLsb' 11 5).toNat : Int) = fblend (old.extractLsb' 11 5).toNat (s.fillR.toNat / 8) v ∧
            ((new.extractLsb' 5 6).toNat : Int) = fblend (old.extractLsb' 5 6).toNat (s.fillG.toNat / 4) v ∧
            ((new.extractLsb' 0 5).toNat : Int) = fblend (old.extractLsb' 0 5).toNat (s.fillB.toNat / 8) v))

/-- R183: `G2G_SAME` writes the clamped sum of target and coverage where the index lies in the table, and `draw any`
past it (U3); the saturation key is cached, appended when new. -/
def Obligations.GrayIntoGrayAddsAndClamps : Prop :=
  ∀ (s256 : Bool) (s : State), Memory.wf s.mem = true → validCount s.tgtGrays = true →
    s.tgtGrays ∈ s.sat ∨ s.sat.length < s.params.satCap → s.Ready .gray .gray → s.PixelsApart .gray →
    ∃ t, exec (.g2gSame s256) s = .next t ∧
      t = { s.completed 17 with
        mem := t.mem, draws := t.draws, sat := if s.tgtGrays ∈ s.sat then s.sat else s.sat ++ [s.tgtGrays] } ∧
      (∀ n : Nat, (n : Int) ∉ s.tgtSpan .gray → Memory.read t.mem n = Memory.read s.mem n) ∧
      ∀ p ∈ s.visible,
        let sum := (s.byteAt (s.tgtAddr 1 p)).toNat + s.coverageAt p
        (sum ≤ 3 * s.tgtGrays.toNat - 2 → (t.byteAt (s.tgtAddr 1 p)).toNat = min sum (s.tgtGrays.toNat - 1)) ∧
        (3 * s.tgtGrays.toNat - 2 < sum → s.Drew t (s.tgtAddr 1 p))

/-- R184: `G2G_CONV` rescales the coverage to the target's count, adds and clamps; the byte is `draw any` for a coverage
past the conversion table or an index past the saturation table (U3); both keys are cached, appended when new, the
saturation key first. -/
def Obligations.GrayIntoGrayRescales : Prop :=
  ∀ (s256 : Bool) (s : State), Memory.wf s.mem = true → validCount s.tgtGrays = true →
    s.tgtGrays ∈ s.sat ∨ s.sat.length < s.params.satCap →
    (s.tgtGrays, s.srcGrays) ∈ s.conv ∨ s.conv.length < s.params.convCap → s.Ready .gray .gray → s.PixelsApart .gray →
    ∃ t, exec (.g2gConv s256) s = .next t ∧
      t = { s.completed 18 with
        mem := t.mem, draws := t.draws, sat := if s.tgtGrays ∈ s.sat then s.sat else s.sat ++ [s.tgtGrays]
        conv := if (s.tgtGrays, s.srcGrays) ∈ s.conv then s.conv else s.conv ++ [(s.tgtGrays, s.srcGrays)] } ∧
      (∀ n : Nat, (n : Int) ∉ s.tgtSpan .gray → Memory.read t.mem n = Memory.read s.mem n) ∧
      ∀ p ∈ s.visible,
        let c := s.coverageAt p
        let k := c * (s.tgtGrays.toNat - 1) / (s.srcGrays.toNat - 1)
        let sum := (s.byteAt (s.tgtAddr 1 p)).toNat + k
        (c < s.srcGrays.toNat → sum ≤ 3 * s.tgtGrays.toNat - 2 →
          (t.byteAt (s.tgtAddr 1 p)).toNat = min sum (s.tgtGrays.toNat - 1)) ∧
        (s.srcGrays.toNat ≤ c ∨ 3 * s.tgtGrays.toNat - 2 < sum → s.Drew t (s.tgtAddr 1 p))

/-- R224: a lookup that fails ends the command with -3 `TableCacheExhausted`; no memory is written, the failing lookup
changes neither list, and a saturation entry inserted before stays. -/
def Obligations.FullCacheEndsTheCommand : Prop :=
  ∀ (s256 : Bool) (s : State),
    (s.tgtGrays ∉ s.sat → s.params.satCap ≤ s.sat.length →
      ∀ i ∈ [Instr.g2gSame s256, .g2gConv s256], ∃ t, exec i s = .next t ∧ t.statusWord = 0x0004FD02 ∧
        t.regs.lastError = 0xFFFFFFFD ∧
        t = { s with
          regs := { s.regs with lastError := t.regs.lastError }, status := t.status, phase := .idle
          disturbed := false }) ∧
    (s.tgtGrays ∈ s.sat ∨ s.sat.length < s.params.satCap → (s.tgtGrays, s.srcGrays) ∉ s.conv →
      s.params.convCap ≤ s.conv.length → ∃ t, exec (.g2gConv s256) s = .next t ∧ t.statusWord = 0x0004FD02 ∧
        t.regs.lastError = 0xFFFFFFFD ∧
        t = { s with
          regs := { s.regs with lastError := t.regs.lastError }, status := t.status, phase := .idle
          disturbed := false, sat := if s.tgtGrays ∈ s.sat then s.sat else s.sat ++ [s.tgtGrays] })

/-! ### LCD kernels -/

/-- R202 to R205 with R201: the general LCD kernels, each channel with its own coverage; a coverage above the maximum
makes the three bytes `draw any` (U2). -/
def Obligations.LcdKernelsFollowTheGeneralLaw : Prop :=
  ∀ (geq tg2 s256 : Bool) (s : State),
    ∀ r ∈ [(Instr.lcdh geq tg2, Format.lcdH, 19#5), (.lcdhr geq tg2, .lcdHR, 21#5), (.lcdv geq tg2 s256, .lcdV, 23#5),
      (.lcdvr geq tg2 s256, .lcdVR, 24#5)],
    Memory.wf s.mem = true → s.Ready r.2.1 .rgb24 → s.PixelsApart .rgb24 →
    ∃ t, exec r.1 s = .next t ∧ t = { s.completed r.2.2 with mem := t.mem, draws := t.draws } ∧
      (∀ n : Nat, (n : Int) ∉ s.tgtSpan .rgb24 → Memory.read t.mem n = Memory.read s.mem n) ∧
      ∀ p ∈ s.visible,
        let m := s.srcGrays.toNat - 1
        let sample (j : Nat) : Nat :=
          (s.byteAt (if r.2.1 = .lcdH ∨ r.2.1 = .lcdHR then s.srcRow (s.srcY p) + 3 * s.srcX p + j
            else s.srcRow (3 * s.srcY p + j) + s.srcX p)).toNat
        let cover (j : Nat) : Nat := sample (if r.2.1 = .lcdH ∨ r.2.1 = .lcdV then j else 2 - j)
        let a := s.tgtAddr 3 p
        let fill (j : Nat) : Byte := s.regs.colorChan.extractLsb' (8 * j) 8
        ((∀ j : Nat, j < 3 → cover j = 0) → ∀ j : Nat, j < 3 → t.byteAt (a + j) = s.byteAt (a + j)) ∧
        ((∀ j : Nat, j < 3 → cover j = m) → m ≠ 0 → ∀ j : Nat, j < 3 → t.byteAt (a + j) = fill j) ∧
        ((∀ j : Nat, j < 3 → cover j ≤ m) → (∃ j : Nat, j < 3 ∧ cover j ≠ 0) → (∃ j : Nat, j < 3 ∧ cover j ≠ m) →
          ∀ j : Nat, j < 3 →
            ((t.byteAt (a + j)).toNat : Int) = blend (s.byteAt (a + j)).toNat (fill j).toNat (cover j) m) ∧
        ((∃ j : Nat, j < 3 ∧ m < cover j) → ∀ j : Nat, j < 3 → s.Drew t (a + j))

/-- R207 and R208 with R206: the LCD fast kernels: a pixel of three zero samples is skipped; otherwise each channel is
filled from 254, blended from 2, and kept below. -/
def Obligations.FastLcdKernelsFollowTheFastLaw : Prop :=
  ∀ (geq tg2 : Bool) (s : State),
    ∀ r ∈ [(Instr.lcdh8 geq tg2, Format.lcdH, 20#5), (.lcdhr8 geq tg2, .lcdHR, 22#5)],
    Memory.wf s.mem = true → s.Ready r.2.1 .rgb24 → s.PixelsApart .rgb24 →
    ∃ t, exec r.1 s = .next t ∧ t = { s.completed r.2.2 with mem := t.mem } ∧
      (∀ n : Nat, (n : Int) ∉ s.tgtSpan .rgb24 → Memory.read t.mem n = Memory.read s.mem n) ∧
      ∀ p ∈ s.visible, ∀ j : Nat, j < 3 →
        let c := (s.byteAt (s.srcRow (s.srcY p) + 3 * s.srcX p +
          ((if r.2.1 = .lcdH then j else 2 - j : Nat) : Int))).toNat
        let a := s.tgtAddr 3 p + j
        let f : Byte := s.regs.colorChan.extractLsb' (8 * j) 8
        (c < 2 → t.byteAt a = s.byteAt a) ∧ (254 ≤ c → t.byteAt a = f) ∧
        (2 ≤ c → c < 254 → ((t.byteAt a).toNat : Int) = fblend (s.byteAt a).toNat f.toNat c)

/-! ### Rows that run no kernel -/

/-- R254: `ERR_SRC` (10 constructors, `errSrcNoneAny` to `errSrcRsv15Any`): a source format that is not MONO, GRAY or
LCD ends the command with -2, whatever the target and the counts. -/
def Obligations.UnsupportedSourceRows : Prop :=
  ∀ (sf tf : Format) (geq tg2 s256 sg2 : Bool) (s : State), sf.isSource = false →
    ∃ t, exec (dispatchRow sf tf geq tg2 s256 sg2) s = .next t ∧ t.statusWord = 0x0003FE02 ∧
      t.regs.lastError = 0xFFFFFFFE ∧
      t = { s with
        regs := { s.regs with lastError := t.regs.lastError }, status := t.status, phase := .idle, disturbed := false }

/-- R255: `ERR_TGT` (20 constructors, `errTgtMonoNone` to `errTgtGrayBadcount`): a mono source with a target outside its
eight, or a gray source of valid count with a target that is neither a colour target nor gray of valid count. -/
def Obligations.UnsupportedTargetRows : Prop :=
  ∀ (sf tf : Format) (geq tg2 s256 sg2 : Bool) (s : State),
    (sf = .mono ∧ tf.isMonoTarget = false) ∨
      (sf = .gray ∧ sg2 = true ∧ tf.isColourTarget = false ∧ (tf = .gray → tg2 = false)) →
    ∃ t, exec (dispatchRow sf tf geq tg2 s256 sg2) s = .next t ∧ t.statusWord = 0x0002FF02 ∧
      t.regs.lastError = 0xFFFFFFFF ∧
      t = { s with
        regs := { s.regs with lastError := t.regs.lastError }, status := t.status, phase := .idle, disturbed := false }

/-- R256: `ERR_ARG` (5 constructors): an invalid source count, for a gray source and any target, or an LCD source and
an RGB24 target. -/
def Obligations.InvalidCountRows : Prop :=
  ∀ (sf tf : Format) (geq tg2 s256 : Bool) (s : State), sf = .gray ∨ (sf.isLcd = true ∧ tf = .rgb24) →
    ∃ t, exec (dispatchRow sf tf geq tg2 s256 false) s = .next t ∧ t.statusWord = 0x0001FF02 ∧
      t.regs.lastError = 0xFFFFFFFF ∧
      t = { s with
        regs := { s.regs with lastError := t.regs.lastError }, status := t.status, phase := .idle, disturbed := false }

/-- R257: `NOOP_LCD` (60 constructors, `noopLcdHNone` to `noopLcdVRRsv15`): an LCD source with a target other than RGB24
is a no-op of status 0; `LAST_ERROR` and memory are unchanged. -/
def Obligations.LcdMismatchRowsAreNoops : Prop :=
  ∀ (sf tf : Format) (geq tg2 s256 sg2 : Bool) (s : State), sf.isLcd = true → tf ≠ .rgb24 →
    ∃ t, exec (dispatchRow sf tf geq tg2 s256 sg2) s = .next t ∧ t.statusWord = 0x00000006 ∧
      t = { s with status := t.status, phase := .idle, disturbed := false }

/-! ### The machine -/

/-- A step runs the decoded instruction. The unit's turn of a BUSY machine runs the instruction of the key in `CTX_KEY`,
at the state with the rest of its schedule; a host write to `CTRL` with bit 0 set runs `START`, likewise. `POLL` (R108;
log entry 13) reads `STATUS`: of a BUSY machine the unit then takes its turn in the same step and the poll stays; of an
IDLE one the poll is over. An IDLE unit waits. -/
def Obligations.StepRunsTheDecodedInstruction : Prop :=
  (∀ (s : State) (i : Instr), s.phase = .busy → decodeKey s.ctx.shownKey = .ok i →
    (s.schedule = [] → step s = exec i s) ∧
    (∀ rest, s.schedule = .unit :: rest → step s = exec i { s with schedule := rest }) ∧
    ∀ rest, s.schedule = .poll :: rest → step s = exec i { s with portData := s.statusWord }) ∧
  (∀ s : State, s.phase = .idle →
    (s.schedule = [] → step s = .next s) ∧
    (∀ rest, s.schedule = .unit :: rest → step s = .next { s with schedule := rest }) ∧
    ∀ rest, s.schedule = .poll :: rest → step s = .next { s with schedule := rest, portData := s.statusWord }) ∧
  ∀ (s : State) (w : Word) (rest : List Event), w.getLsbD 0 = true → s.schedule = hostWr s.params .ctrl w :: rest →
    step s = exec (.start (w.extractLsb' 1 31)) { s with schedule := rest }

/-- The two steps of a command are the one transition of R240 and R242 (R244): the checks in their order, the clip,
the key, and then the row of the key. -/
def Obligations.StartThenUnitTurnIsTheBlitCommand : Prop :=
  ∀ (s : State) (w : Word), s.phase = .idle → w.getLsbD 0 = true → s.schedule = [hostWr s.params .ctrl w] →
    let b := { s with
      schedule := [], phase := .busy, status := { s.status with done := false }, ctxBefore := s.ctx
      disturbed := false }
    if s.srcBase = 0 ∨ s.tgtBase = 0 then step s = .next (State.raiseStatus { b with ctx := .zero } (-1) .argument)
    else if s.srcWidth = 0 ∨ s.srcHeight = 0 then step s = .next (State.finishOk { b with ctx := .zero } true 0)
    else
      match s.clip with
      | none => step s = .next (State.finishOk { b with ctx := .zero } true 0)
      | some c =>
        let r := { b with ctx := c.ctx s.formKey }
        ∃ i, decodeKey s.formKey = .ok i ∧ step s = .next r ∧
          match kernelOf i with
          | some k => step r = runKernel k r
          | none =>
            step r = .next (if s.srcFormat.isSource = false then r.raiseStatus (-2) .sourceDepth
              else if s.srcFormat.isLcd = true ∧ s.tgtFormat ≠ .rgb24 then r.finishOk true 0
              else if s.srcFormat ≠ .mono ∧ validCount s.srcGrays = false then r.raiseStatus (-1) .argument
              else r.raiseStatus (-1) .targetDepth)

/-- The invariant holds at reset, for every legal choice of the parameters. -/
def Obligations.ResetMeetsTheInvariant : Prop := ∀ p : Params, p.legal = true → (State.resetWith p).Inv

/-- Every step keeps the invariant, from every state that meets it. -/
def Obligations.EveryStepKeepsTheInvariant : Prop :=
  ∀ s t : State, s.Inv → step s = .next t → t.Inv

/-- R300: every command ends: the unit's turn of a BUSY machine completes, or is a bus fault. -/
def Obligations.EveryCommandEnds : Prop :=
  ∀ s : State, s.Inv → s.phase = .busy → s.schedule = [] →
    (∃ t, step s = .next t ∧ t.phase = .idle ∧ t.status.done = true) ∨ ∃ a, step s = .fault (.busFault a)

/-- R273: after a non-zero status memory is unchanged and no free value was drawn. The side effects are `STATUS`,
`LAST_ERROR`, `CTX_*` (with the model's own record of its value before, log entry 7), the command state, and for
`G2G_CONV` a saturation entry inserted before the conversion lookup failed. -/
def Obligations.FailingCommandsWriteNoMemory : Prop :=
  ∀ (i : Instr) (s t : State), exec i s = .next t → t.status.code ≠ 0 →
    t = { s with
      regs := { s.regs with lastError := t.regs.lastError }, status := t.status, ctx := t.ctx
      ctxBefore := t.ctxBefore, phase := t.phase, disturbed := t.disturbed, sat := t.sat } ∧
    (t.sat = s.sat ∨ (t.sat = s.sat ++ [s.tgtGrays] ∧ ∃ s256, i = .g2gConv s256))

/-- R260: what a command can change. The registers but `LAST_ERROR`, the parameters, the schedule and what the host has
read never change; `LAST_ERROR` changes only with an error; the caches only grow; memory changes only in the target
span of a kernel. -/
def Obligations.CommandsChangeOnlyTheirOwnState : Prop :=
  ∀ (i : Instr) (s t : State), exec i s = .next t →
    t.params = s.params ∧ t.schedule = s.schedule ∧ t.portData = s.portData ∧ t.memData = s.memData ∧
    t.regs = { s.regs with lastError := t.regs.lastError } ∧
    (t.status.code = 0 → t.regs.lastError = s.regs.lastError) ∧ s.sat <+: t.sat ∧ s.conv <+: t.conv ∧
    ∀ n : Nat, Memory.read t.mem n = Memory.read s.mem n ∨
      ∃ k, kernelOf i = some k ∧ (n : Int) ∈ s.tgtSpan k.tf

/-- R226 and R291: only reset empties the caches: every other step keeps each entry in its place. -/
def Obligations.OnlyResetEmptiesTheCaches : Prop :=
  ∀ s t : State, step s = .next t → (∀ rest, s.schedule ≠ .reset :: rest) → s.sat <+: t.sat ∧ s.conv <+: t.conv

/-- R41 and R290: after reset, for every choice of the parameters, the block is IDLE, every register but `CACHE_INFO`
reads 0, `CACHE_INFO` shows the caps alone, and the caches are empty. A `START` then ends with -1. -/
def Obligations.ResetLeavesTheResetValues : Prop :=
  ∀ p : Params, p.legal = true →
    let s := State.resetWith p
    s.phase = .idle ∧ s.sat = [] ∧ s.conv = [] ∧ (∀ r : Reg, r ≠ .cacheInfo → s.readReg r = 0) ∧
      (s.readReg .cacheInfo).toNat = p.convCap * 2 ^ 24 + p.satCap * 2 ^ 16 ∧
      ∀ w : BitVec 31, ∃ t, exec (.start w) s = .next t ∧ t.statusWord = 0x0001FF02 ∧ t.regs.lastError = 0xFFFFFFFF

/-- R290 and R292: the reset input puts the block in its reset state whatever it does (the phase is IDLE, the caches are
empty, every register reads 0 but the caps of `CACHE_INFO`); every byte of the target span of a command in progress is
freed, and memory keeps every other byte, and every byte when IDLE. That a command which runs no kernel has no target
span is the model's reading (log entry 12), and that reset leaves the host's own data is its choice (log entry 6). -/
def Obligations.ResetInputResetsTheBlock : Prop :=
  ∀ (s : State) (rest : List Event), s.schedule = .reset :: rest →
    ∃ t, step s = .next t ∧
      t = { State.resetWith s.params with
        mem := t.mem, draws := t.draws, schedule := rest, portData := s.portData, memData := s.memData } ∧
      t.phase = .idle ∧ t.sat = [] ∧ t.conv = [] ∧ (∀ r : Reg, r ≠ .cacheInfo → t.readReg r = 0) ∧
      (s.params.legal = true →
        (t.readReg .cacheInfo).toNat = s.params.convCap * 2 ^ 24 + s.params.satCap * 2 ^ 16) ∧
      (s.phase = .idle → t.mem = s.mem) ∧
      s.Freed t (s.pendingTarget.filter (holdsByte s.params)) ∧
      ∀ n : Nat, (n : Int) ∉ s.pendingTarget → Memory.read t.mem n = Memory.read s.mem n

/-- The host's memory accesses while IDLE: a write changes its byte alone, a read returns the byte. -/
def Obligations.HostReadsBackItsMemory : Prop :=
  ∀ (s : State) (a : Nat) (v : Byte) (rest : List Event), Memory.wf s.mem = true → s.phase = .idle →
    a < 2 ^ s.params.addrW →
    s.schedule = .memWrite a v :: .memRead a :: rest →
    ∃ t u, step s = .next t ∧ step t = .next u ∧ u.memData = v ∧
      u = { s with mem := u.mem, memData := u.memData, schedule := rest } ∧
      ∀ n, n ≠ a → Memory.read u.mem n = Memory.read s.mem n

/-- R76: a host write of a span byte, or a read of a target-span byte, while BUSY disturbs the command, and the command
still completes with status 0 and frees every byte of its target span; every other byte is as before. What a read of
the target span returns is free too. -/
def Obligations.DisturbedCommandsStillComplete : Prop :=
  ∀ (s : State) (k : Kernel) (i : Instr) (a : Nat) (v : Byte) (s1 : State), s.phase = .busy →
    a < 2 ^ s.params.addrW → decodeKey s.ctx.shownKey = .ok i → kernelOf i = some k → k.lookups s = .ok s1 →
    s.Admitted k.sf k.tf →
    (s.schedule = [.memWrite a v] ∧ (a : Int) ∈ s.srcSpan k.sf ++ s.tgtSpan k.tf) ∨
      (s.schedule = [.memRead a] ∧ (a : Int) ∈ s.tgtSpan k.tf) →
    ∃ t u, step s = .next t ∧ t.disturbed = true ∧
      (s.schedule = [.memRead a] → t.mem = s.mem ∧ t.memData = Config.freeByte s.draws ∧ t.draws = s.draws + 1) ∧
      (s.schedule = [.memWrite a v] → ∀ n, n ≠ a → Memory.read t.mem n = Memory.read s.mem n) ∧
      step t = .next u ∧ u.status = (s.completed k.id).status ∧ u.phase = .idle ∧ u.disturbed = false ∧
      t.Freed u (s.tgtSpan k.tf) ∧
      ∀ n : Nat, (n : Int) ∉ s.tgtSpan k.tf → Memory.read u.mem n = Memory.read t.mem n

/-- R297: a kernel whose spans are disjoint and untouched and whose coverages are in range draws no free value: its
result is a function of what it reads (R260). For gray into gray the target bytes must lie in the table's normal
range too. -/
def Obligations.InRangeCommandsDrawNothing : Prop :=
  ∀ (i : Instr) (k : Kernel) (s t : State), kernelOf i = some k → exec i s = .next t → Memory.wf s.mem = true →
    s.Ready k.sf k.tf → (k.tables = .sat → s.srcGrays = s.tgtGrays) →
    (k.sf ≠ .mono → ∀ a ∈ s.srcSpan k.sf, (s.byteAt a).toNat + 1 ≤ s.srcGrays.toNat) →
    (k.sf = .gray → k.tf = .gray → ∀ a ∈ s.tgtSpan k.tf, (s.byteAt a).toNat + 1 ≤ s.tgtGrays.toNat) →
    t.draws = s.draws
end

