-- ==== Sys2Proof/Laws/Memory.lean ====
section
/-! SUPPORT. The laws of memory: a read after a write, and the canonical form that every memory operation keeps. -/

namespace Sys2Proof.Machine

@[simp] theorem Memory.read_nil (a : Nat) : Memory.read [] a = unlistedByte := rfl

@[simp] theorem Memory.read_cons (b : Nat) (w : Byte) (m : List Host.Cell) (a : Nat) :
    Memory.read ((b, w) :: m) a = if b = a then w else Memory.read m a := rfl

/-- The canonical form, one entry at a time: the first entry is not the unlisted byte, lies below all others, and
the rest is canonical. -/
theorem Memory.wf_cons (a : Nat) (w : Byte) (m : List Host.Cell) :
    Memory.wf ((a, w) :: m) = true ↔ w ≠ unlistedByte ∧ (∀ c ∈ m, a < c.1) ∧ Memory.wf m = true := by
  induction m generalizing a w with
  | nil => simp [Memory.wf]
  | cons c m ih =>
    obtain ⟨b, x⟩ := c
    have h := ih b x
    simp only [Memory.wf, Bool.and_eq_true, bne_iff_ne, decide_eq_true_eq, h, List.forall_mem_cons]
    constructor
    · rintro ⟨hw, hab, hx, hb, hm⟩
      exact ⟨hw, ⟨hab, fun c hc => hab.trans (hb c hc)⟩, hx, hb, hm⟩
    · rintro ⟨hw, ⟨hab, -⟩, hx, hb, hm⟩
      exact ⟨hw, hab, hx, hb, hm⟩

/-- A byte below every listed address is unlisted. -/
theorem Memory.read_of_below (m : List Host.Cell) (a : Nat) (h : ∀ c ∈ m, a < c.1) :
    Memory.read m a = unlistedByte := by
  induction m with
  | nil => rfl
  | cons c m ih =>
    obtain ⟨b, w⟩ := c
    rw [List.forall_mem_cons] at h
    have hne : b ≠ a := fun e => absurd h.1 (by simp [e])
    simp [hne, ih h.2]

/-- An address listed after a write was listed before, or is the one written. -/
theorem Memory.mem_write (m : List Host.Cell) (a : Nat) (v : Byte) (c : Host.Cell)
    (h : c ∈ Memory.write m a v) : c ∈ m ∨ c.1 = a := by
  induction m with
  | nil =>
    simp only [Memory.write] at h
    split at h <;> simp_all
  | cons d m ih =>
    obtain ⟨b, w⟩ := d
    simp only [Memory.write] at h
    split_ifs at h <;> simp only [List.mem_cons] at h ⊢ <;> grind

/-- A byte read back after a write to it. -/
theorem Memory.read_write_same (m : List Host.Cell) (a : Nat) (v : Byte) (h : Memory.wf m = true) :
    Memory.read (Memory.write m a v) a = v := by
  induction m with
  | nil =>
    simp only [Memory.write]
    split_ifs with hv <;> simp [hv]
  | cons c m ih =>
    obtain ⟨b, w⟩ := c
    obtain ⟨hw, hb, hm⟩ := (Memory.wf_cons b w m).1 h
    simp only [Memory.write]
    split_ifs with hlt hv heq hv
    · rw [hv]
      exact Memory.read_of_below _ a (List.forall_mem_cons.2 ⟨hlt, fun c hc => hlt.trans (hb c hc)⟩)
    · simp
    · subst heq
      rw [hv]
      exact Memory.read_of_below _ a hb
    · simp
    · simp [Ne.symm heq, ih hm]

/-- A write leaves every other byte alone. -/
theorem Memory.read_write_other (m : List Host.Cell) (a b : Nat) (v : Byte) (h : b ≠ a) :
    Memory.read (Memory.write m a v) b = Memory.read m b := by
  induction m with
  | nil =>
    simp only [Memory.write]
    split_ifs <;> simp [Ne.symm h]
  | cons c m ih =>
    obtain ⟨d, w⟩ := c
    simp only [Memory.write]
    split_ifs with hlt hv heq hv
    · rfl
    · simp [Ne.symm h]
    · subst heq
      simp [Ne.symm h]
    · subst heq
      simp [Ne.symm h]
    · simp [ih]

/-- A write keeps the canonical form. -/
theorem Memory.wf_write (m : List Host.Cell) (a : Nat) (v : Byte) (h : Memory.wf m = true) :
    Memory.wf (Memory.write m a v) = true := by
  induction m with
  | nil =>
    simp only [Memory.write]
    split_ifs with hv
    · rfl
    · simp [Memory.wf, hv]
  | cons c m ih =>
    obtain ⟨b, w⟩ := c
    obtain ⟨hw, hb, hm⟩ := (Memory.wf_cons b w m).1 h
    simp only [Memory.write]
    split_ifs with hlt hv heq hv
    · exact h
    · exact (Memory.wf_cons _ _ _).2 ⟨hv, List.forall_mem_cons.2 ⟨hlt, fun c hc => hlt.trans (hb c hc)⟩, h⟩
    · exact hm
    · exact (Memory.wf_cons _ _ _).2 ⟨hv, heq ▸ hb, hm⟩
    · refine (Memory.wf_cons _ _ _).2 ⟨hw, fun c hc => ?_, ih hm⟩
      rcases Memory.mem_write m a v c hc with hc | hc
      · exact hb c hc
      · omega

/-- The two laws as one: what a byte reads as after a write. -/
theorem Memory.read_write (m : List Host.Cell) (a b : Nat) (v : Byte) (h : Memory.wf m = true) :
    Memory.read (Memory.write m a v) b = if b = a then v else Memory.read m b := by
  split_ifs with e
  · rw [e, Memory.read_write_same m a v h]
  · exact Memory.read_write_other m a b v e

/-- Canonical memories that read alike are equal. -/
theorem Memory.ext_of_read (m n : List Host.Cell) (hm : Memory.wf m = true) (hn : Memory.wf n = true)
    (h : ∀ a, Memory.read m a = Memory.read n a) : m = n := by
  induction m generalizing n with
  | nil =>
    cases n with
    | nil => rfl
    | cons c n =>
      obtain ⟨b, w⟩ := c
      have := h b
      simp only [Memory.read_nil, Memory.read_cons, if_true] at this
      exact absurd this.symm ((Memory.wf_cons b w n).1 hn).1
  | cons c m ih =>
    obtain ⟨a, w⟩ := c
    obtain ⟨hw, ha, hm'⟩ := (Memory.wf_cons a w m).1 hm
    cases n with
    | nil =>
      have := h a
      simp only [Memory.read_nil, Memory.read_cons, if_true] at this
      exact absurd this hw
    | cons d n =>
      obtain ⟨b, x⟩ := d
      obtain ⟨hx, hb, hn'⟩ := (Memory.wf_cons b x n).1 hn
      have hab : a = b := by
        rcases lt_trichotomy a b with l | e | l
        · have := h a
          simp only [Memory.read_cons, if_true, if_neg (Nat.ne_of_gt l)] at this
          rw [Memory.read_of_below n a fun c hc => l.trans (hb c hc)] at this
          exact absurd this hw
        · exact e
        · have := h b
          simp only [Memory.read_cons, if_true, if_neg (Nat.ne_of_gt l)] at this
          rw [Memory.read_of_below m b fun c hc => l.trans (ha c hc)] at this
          exact absurd this.symm hx
      subst hab
      have hwx : w = x := by simpa using h a
      subst hwx
      rw [ih n hm' hn' fun k => ?_]
      by_cases hk : a = k
      · subst hk
        rw [Memory.read_of_below m a ha, Memory.read_of_below n a hb]
      · simpa [hk] using h k

end Sys2Proof.Machine
end

