-- ==== Sys2Proof/Laws/Canvas.lean ====
section
/-! SUPPORT. What painting on a canvas changes, and what it leaves alone. -/

namespace Sys2Proof.Machine

theorem Int.toNat_ne_of_ne {a : Int} {n : Nat} (ha : 0 ≤ a) (h : (n : Int) ≠ a) : n ≠ a.toNat := by omega

/-- What every write of `putAll` keeps, `putAll` keeps. -/
theorem Canvas.putAll_induction {P : Canvas → Prop} (l : List (Int × Byte)) (c : Canvas) (h0 : P c)
    (hput : ∀ c, ∀ q ∈ l, P c → P (c.put q.1 q.2)) : P (c.putAll l) := by
  induction l generalizing c with
  | nil => exact h0
  | cons q l ih =>
    exact ih (c.put q.1 q.2) (hput c q List.mem_cons_self h0) fun c r hr => hput c r (List.mem_cons_of_mem q hr)

/-- What every free byte of `scrambleAll` keeps, `scrambleAll` keeps. -/
theorem Canvas.scrambleAll_induction {P : Canvas → Prop} (l : List Int) (c : Canvas) (h0 : P c)
    (hput : ∀ c, ∀ a ∈ l, P c → P (c.scramble a)) : P (c.scrambleAll l) := by
  induction l generalizing c with
  | nil => exact h0
  | cons a l ih =>
    exact ih (c.scramble a) (hput c a List.mem_cons_self h0) fun c r hr => hput c r (List.mem_cons_of_mem a hr)

theorem Canvas.read_put_other (c : Canvas) (a : Int) (v : Byte) (n : Nat) (ha : 0 ≤ a) (h : (n : Int) ≠ a) :
    Memory.read (c.put a v).mem n = Memory.read c.mem n :=
  Memory.read_write_other _ _ _ _ (Int.toNat_ne_of_ne ha h)

theorem Canvas.read_scramble_other (c : Canvas) (a : Int) (n : Nat) (ha : 0 ≤ a) (h : (n : Int) ≠ a) :
    Memory.read (c.scramble a).mem n = Memory.read c.mem n :=
  Memory.read_write_other _ _ _ _ (Int.toNat_ne_of_ne ha h)

/-- Writes leave every byte outside their addresses alone. -/
theorem Canvas.read_putAll_other (l : List (Int × Byte)) (c : Canvas) (n : Nat) (h0 : ∀ q ∈ l, 0 ≤ q.1)
    (h : ∀ q ∈ l, (n : Int) ≠ q.1) : Memory.read (c.putAll l).mem n = Memory.read c.mem n :=
  Canvas.putAll_induction (P := fun d => Memory.read d.mem n = Memory.read c.mem n) l c rfl fun d q hq hd => by
    rw [Canvas.read_put_other d q.1 q.2 n (h0 q hq) (h q hq), hd]

/-- Free values leave every byte outside their addresses alone. -/
theorem Canvas.read_scrambleAll_other (l : List Int) (c : Canvas) (n : Nat) (h0 : ∀ a ∈ l, 0 ≤ a)
    (h : (n : Int) ∉ l) : Memory.read (c.scrambleAll l).mem n = Memory.read c.mem n :=
  Canvas.scrambleAll_induction (P := fun d => Memory.read d.mem n = Memory.read c.mem n) l c rfl fun d a ha hd => by
    rw [Canvas.read_scramble_other d a n (h0 a ha) (fun e => h (e ▸ ha)), hd]

theorem Canvas.wf_putAll (l : List (Int × Byte)) (c : Canvas) (h : Memory.wf c.mem = true) :
    Memory.wf (c.putAll l).mem = true :=
  Canvas.putAll_induction (P := fun d => Memory.wf d.mem = true) l c h fun _ _ _ hd => Memory.wf_write _ _ _ hd

theorem Canvas.wf_scrambleAll (l : List Int) (c : Canvas) (h : Memory.wf c.mem = true) :
    Memory.wf (c.scrambleAll l).mem = true :=
  Canvas.scrambleAll_induction (P := fun d => Memory.wf d.mem = true) l c h fun _ _ _ hd => Memory.wf_write _ _ _ hd

/-- Every address listed after writes was listed before, or is one of theirs. -/
theorem Canvas.mem_putAll (l : List (Int × Byte)) (c : Canvas) (x : Host.Cell) (h : x ∈ (c.putAll l).mem) :
    x ∈ c.mem ∨ ∃ q ∈ l, x.1 = q.1.toNat := by
  revert x
  refine Canvas.putAll_induction (P := fun d => ∀ x ∈ d.mem, x ∈ c.mem ∨ ∃ q ∈ l, x.1 = q.1.toNat) l c
    (fun x hx => .inl hx) fun d q hq hd x hx => ?_
  rcases Memory.mem_write _ _ _ _ hx with hx | hx
  · exact hd x hx
  · exact .inr ⟨q, hq, hx⟩

/-- Every address listed after free values was listed before, or is one of theirs. -/
theorem Canvas.mem_scrambleAll (l : List Int) (c : Canvas) (x : Host.Cell) (h : x ∈ (c.scrambleAll l).mem) :
    x ∈ c.mem ∨ ∃ a ∈ l, x.1 = a.toNat := by
  revert x
  refine Canvas.scrambleAll_induction (P := fun d => ∀ x ∈ d.mem, x ∈ c.mem ∨ ∃ a ∈ l, x.1 = a.toNat) l c
    (fun x hx => .inl hx) fun d a ha hd x hx => ?_
  rcases Memory.mem_write _ _ _ _ hx with hx | hx
  · exact hd x hx
  · exact .inr ⟨a, ha, hx⟩

@[simp] theorem Canvas.draws_putAll (l : List (Int × Byte)) (c : Canvas) : (c.putAll l).draws = c.draws :=
  Canvas.putAll_induction (P := fun d => d.draws = c.draws) l c rfl fun _ _ _ hd => hd

@[simp] theorem Canvas.draws_scrambleAll (l : List Int) (c : Canvas) :
    (c.scrambleAll l).draws = c.draws + l.length := by
  induction l generalizing c with
  | nil => rfl
  | cons a l ih =>
    change ((c.scramble a).scrambleAll l).draws = _
    rw [ih, List.length_cons]
    change c.draws + 1 + l.length = _
    omega

/-- Every byte that `scrambleAll` frees holds one of the free values it draws. -/
theorem Canvas.byte_scrambleAll_mem (l : List Int) (c : Canvas) (hwf : Memory.wf c.mem = true) (a : Int) (ha : a ∈ l) :
    ∃ n, c.draws ≤ n ∧ n < (c.scrambleAll l).draws ∧ (c.scrambleAll l).byte a = Config.freeByte n := by
  -- from a later canvas on: the byte is still to be freed, or holds a free value drawn since
  have later : ∀ (l : List Int) (d : Canvas), Memory.wf d.mem = true → c.draws ≤ d.draws →
      (a ∈ l ∨ ∃ n, c.draws ≤ n ∧ n < d.draws ∧ d.byte a = Config.freeByte n) →
      ∃ n, c.draws ≤ n ∧ n < (d.scrambleAll l).draws ∧ (d.scrambleAll l).byte a = Config.freeByte n := by
    intro l
    induction l with
    | nil => exact fun d _ _ h => h.resolve_left List.not_mem_nil
    | cons b l ih =>
      intro d hd hle h
      refine ih (d.scramble b) (Memory.wf_write _ _ _ hd) (Nat.le_succ_of_le hle) ?_
      by_cases e : a.toNat = b.toNat
      · refine .inr ⟨d.draws, hle, Nat.lt_succ_self _, ?_⟩
        rw [Canvas.byte, e]
        exact Memory.read_write_same _ _ _ hd
      · rcases h with h | ⟨n, h1, h2, h3⟩
        · exact .inl ((List.mem_cons.1 h).resolve_left fun h => e (h ▸ rfl))
        · exact .inr ⟨n, h1, Nat.lt_succ_of_lt h2, (Memory.read_write_other _ _ _ _ e).trans h3⟩
  exact later l c hwf le_rfl (.inl ha)

/-- A byte written once by a list of writes to distinct addresses reads back. -/
theorem Canvas.read_putAll_mem (l : List (Int × Byte)) (c : Canvas) (hwf : Memory.wf c.mem = true)
    (h0 : ∀ q ∈ l, 0 ≤ q.1) (hd : (l.map Prod.fst).Nodup) (q : Int × Byte) (hq : q ∈ l) :
    Memory.read (c.putAll l).mem q.1.toNat = q.2 := by
  induction l generalizing c with
  | nil => simp at hq
  | cons r l ih =>
    rw [List.map_cons, List.nodup_cons] at hd
    have h0' : ∀ x ∈ l, 0 ≤ x.1 := fun x hx => h0 x (List.mem_cons_of_mem r hx)
    change Memory.read ((c.put r.1 r.2).putAll l).mem q.1.toNat = q.2
    rcases List.mem_cons.1 hq with rfl | hq
    · have hq0 := h0 q List.mem_cons_self
      rw [Canvas.read_putAll_other l _ _ h0' fun x hx e => hd.1 ?_]
      · exact Memory.read_write_same _ _ _ hwf
      · have : x.1 = q.1 := by omega
        exact this ▸ List.mem_map_of_mem hx
    · exact ih (c.put r.1 r.2) (Memory.wf_write _ _ _ hwf) h0' hd.2 hq

end Sys2Proof.Machine
end

