-- ==== Sys2Proof/Laws/State.lean ====
section
/-! SUPPORT. One lemma for each field and each named update of State, true by unfolding, so that no later proof
unfolds a record update. -/

namespace Sys2Proof.Machine

section
variable (s : State)

@[simp] theorem State.withCanvas_params (c : Canvas) : (s.withCanvas c).params = s.params := rfl
@[simp] theorem State.withCanvas_regs (c : Canvas) : (s.withCanvas c).regs = s.regs := rfl
@[simp] theorem State.withCanvas_status (c : Canvas) : (s.withCanvas c).status = s.status := rfl
@[simp] theorem State.withCanvas_ctx (c : Canvas) : (s.withCanvas c).ctx = s.ctx := rfl
@[simp] theorem State.withCanvas_sat (c : Canvas) : (s.withCanvas c).sat = s.sat := rfl
@[simp] theorem State.withCanvas_conv (c : Canvas) : (s.withCanvas c).conv = s.conv := rfl
@[simp] theorem State.withCanvas_phase (c : Canvas) : (s.withCanvas c).phase = s.phase := rfl
@[simp] theorem State.withCanvas_mem (c : Canvas) : (s.withCanvas c).mem = c.mem := rfl
@[simp] theorem State.withCanvas_ctxBefore (c : Canvas) : (s.withCanvas c).ctxBefore = s.ctxBefore := rfl
@[simp] theorem State.withCanvas_disturbed (c : Canvas) : (s.withCanvas c).disturbed = s.disturbed := rfl
@[simp] theorem State.withCanvas_schedule (c : Canvas) : (s.withCanvas c).schedule = s.schedule := rfl
@[simp] theorem State.withCanvas_portData (c : Canvas) : (s.withCanvas c).portData = s.portData := rfl
@[simp] theorem State.withCanvas_memData (c : Canvas) : (s.withCanvas c).memData = s.memData := rfl
@[simp] theorem State.withCanvas_draws (c : Canvas) : (s.withCanvas c).draws = c.draws := rfl

@[simp] theorem State.withCtx_params (c : Ctx) : (s.withCtx c).params = s.params := rfl
@[simp] theorem State.withCtx_regs (c : Ctx) : (s.withCtx c).regs = s.regs := rfl
@[simp] theorem State.withCtx_status (c : Ctx) : (s.withCtx c).status = s.status := rfl
@[simp] theorem State.withCtx_ctx (c : Ctx) : (s.withCtx c).ctx = c := rfl
@[simp] theorem State.withCtx_sat (c : Ctx) : (s.withCtx c).sat = s.sat := rfl
@[simp] theorem State.withCtx_conv (c : Ctx) : (s.withCtx c).conv = s.conv := rfl
@[simp] theorem State.withCtx_phase (c : Ctx) : (s.withCtx c).phase = s.phase := rfl
@[simp] theorem State.withCtx_mem (c : Ctx) : (s.withCtx c).mem = s.mem := rfl
@[simp] theorem State.withCtx_ctxBefore (c : Ctx) : (s.withCtx c).ctxBefore = s.ctxBefore := rfl
@[simp] theorem State.withCtx_disturbed (c : Ctx) : (s.withCtx c).disturbed = s.disturbed := rfl
@[simp] theorem State.withCtx_schedule (c : Ctx) : (s.withCtx c).schedule = s.schedule := rfl
@[simp] theorem State.withCtx_portData (c : Ctx) : (s.withCtx c).portData = s.portData := rfl
@[simp] theorem State.withCtx_memData (c : Ctx) : (s.withCtx c).memData = s.memData := rfl
@[simp] theorem State.withCtx_draws (c : Ctx) : (s.withCtx c).draws = s.draws := rfl

@[simp] theorem State.withSchedule_params (l : List Event) : (s.withSchedule l).params = s.params := rfl
@[simp] theorem State.withSchedule_regs (l : List Event) : (s.withSchedule l).regs = s.regs := rfl
@[simp] theorem State.withSchedule_status (l : List Event) : (s.withSchedule l).status = s.status := rfl
@[simp] theorem State.withSchedule_ctx (l : List Event) : (s.withSchedule l).ctx = s.ctx := rfl
@[simp] theorem State.withSchedule_sat (l : List Event) : (s.withSchedule l).sat = s.sat := rfl
@[simp] theorem State.withSchedule_conv (l : List Event) : (s.withSchedule l).conv = s.conv := rfl
@[simp] theorem State.withSchedule_phase (l : List Event) : (s.withSchedule l).phase = s.phase := rfl
@[simp] theorem State.withSchedule_mem (l : List Event) : (s.withSchedule l).mem = s.mem := rfl
@[simp] theorem State.withSchedule_ctxBefore (l : List Event) : (s.withSchedule l).ctxBefore = s.ctxBefore := rfl
@[simp] theorem State.withSchedule_disturbed (l : List Event) : (s.withSchedule l).disturbed = s.disturbed := rfl
@[simp] theorem State.withSchedule_schedule (l : List Event) : (s.withSchedule l).schedule = l := rfl
@[simp] theorem State.withSchedule_portData (l : List Event) : (s.withSchedule l).portData = s.portData := rfl
@[simp] theorem State.withSchedule_memData (l : List Event) : (s.withSchedule l).memData = s.memData := rfl
@[simp] theorem State.withSchedule_draws (l : List Event) : (s.withSchedule l).draws = s.draws := rfl

@[simp] theorem State.finishOk_params (b : Bool) (k : BitVec 5) : (s.finishOk b k).params = s.params := rfl
@[simp] theorem State.finishOk_regs (b : Bool) (k : BitVec 5) : (s.finishOk b k).regs = s.regs := rfl
@[simp] theorem State.finishOk_status (b : Bool) (k : BitVec 5) : (s.finishOk b k).status = ⟨true, b, 0, .none, k⟩ := rfl
@[simp] theorem State.finishOk_ctx (b : Bool) (k : BitVec 5) : (s.finishOk b k).ctx = s.ctx := rfl
@[simp] theorem State.finishOk_sat (b : Bool) (k : BitVec 5) : (s.finishOk b k).sat = s.sat := rfl
@[simp] theorem State.finishOk_conv (b : Bool) (k : BitVec 5) : (s.finishOk b k).conv = s.conv := rfl
@[simp] theorem State.finishOk_phase (b : Bool) (k : BitVec 5) : (s.finishOk b k).phase = .idle := rfl
@[simp] theorem State.finishOk_mem (b : Bool) (k : BitVec 5) : (s.finishOk b k).mem = s.mem := rfl
@[simp] theorem State.finishOk_ctxBefore (b : Bool) (k : BitVec 5) : (s.finishOk b k).ctxBefore = s.ctxBefore := rfl
@[simp] theorem State.finishOk_disturbed (b : Bool) (k : BitVec 5) : (s.finishOk b k).disturbed = false := rfl
@[simp] theorem State.finishOk_schedule (b : Bool) (k : BitVec 5) : (s.finishOk b k).schedule = s.schedule := rfl
@[simp] theorem State.finishOk_portData (b : Bool) (k : BitVec 5) : (s.finishOk b k).portData = s.portData := rfl
@[simp] theorem State.finishOk_memData (b : Bool) (k : BitVec 5) : (s.finishOk b k).memData = s.memData := rfl
@[simp] theorem State.finishOk_draws (b : Bool) (k : BitVec 5) : (s.finishOk b k).draws = s.draws := rfl

@[simp] theorem State.raiseStatus_params (e : Int) (k : ErrorKind) : (s.raiseStatus e k).params = s.params := rfl
@[simp] theorem State.raiseStatus_regs (e : Int) (k : ErrorKind) : (s.raiseStatus e k).regs = { s.regs with lastError := BitVec.ofInt 32 e } := rfl
@[simp] theorem State.raiseStatus_status (e : Int) (k : ErrorKind) : (s.raiseStatus e k).status = ⟨true, false, BitVec.ofInt 8 e, k, 0⟩ := rfl
@[simp] theorem State.raiseStatus_ctx (e : Int) (k : ErrorKind) : (s.raiseStatus e k).ctx = s.ctx := rfl
@[simp] theorem State.raiseStatus_sat (e : Int) (k : ErrorKind) : (s.raiseStatus e k).sat = s.sat := rfl
@[simp] theorem State.raiseStatus_conv (e : Int) (k : ErrorKind) : (s.raiseStatus e k).conv = s.conv := rfl
@[simp] theorem State.raiseStatus_phase (e : Int) (k : ErrorKind) : (s.raiseStatus e k).phase = .idle := rfl
@[simp] theorem State.raiseStatus_mem (e : Int) (k : ErrorKind) : (s.raiseStatus e k).mem = s.mem := rfl
@[simp] theorem State.raiseStatus_ctxBefore (e : Int) (k : ErrorKind) : (s.raiseStatus e k).ctxBefore = s.ctxBefore := rfl
@[simp] theorem State.raiseStatus_disturbed (e : Int) (k : ErrorKind) : (s.raiseStatus e k).disturbed = false := rfl
@[simp] theorem State.raiseStatus_schedule (e : Int) (k : ErrorKind) : (s.raiseStatus e k).schedule = s.schedule := rfl
@[simp] theorem State.raiseStatus_portData (e : Int) (k : ErrorKind) : (s.raiseStatus e k).portData = s.portData := rfl
@[simp] theorem State.raiseStatus_memData (e : Int) (k : ErrorKind) : (s.raiseStatus e k).memData = s.memData := rfl
@[simp] theorem State.raiseStatus_draws (e : Int) (k : ErrorKind) : (s.raiseStatus e k).draws = s.draws := rfl

@[simp] theorem State.started_params : (s.started).params = s.params := rfl
@[simp] theorem State.started_regs : (s.started).regs = s.regs := rfl
@[simp] theorem State.started_status : (s.started).status = { s.status with done := false } := rfl
@[simp] theorem State.started_ctx : (s.started).ctx = s.ctx := rfl
@[simp] theorem State.started_sat : (s.started).sat = s.sat := rfl
@[simp] theorem State.started_conv : (s.started).conv = s.conv := rfl
@[simp] theorem State.started_phase : (s.started).phase = .busy := rfl
@[simp] theorem State.started_mem : (s.started).mem = s.mem := rfl
@[simp] theorem State.started_ctxBefore : (s.started).ctxBefore = s.ctx := rfl
@[simp] theorem State.started_disturbed : (s.started).disturbed = false := rfl
@[simp] theorem State.started_schedule : (s.started).schedule = s.schedule := rfl
@[simp] theorem State.started_portData : (s.started).portData = s.portData := rfl
@[simp] theorem State.started_memData : (s.started).memData = s.memData := rfl
@[simp] theorem State.started_draws : (s.started).draws = s.draws := rfl

@[simp] theorem State.canvas_mem : s.canvas.mem = s.mem := rfl
@[simp] theorem State.canvas_draws : s.canvas.draws = s.draws := rfl

end

@[simp] theorem State.resetWith_params (p : Params) : (State.resetWith p).params = p := rfl
@[simp] theorem State.resetWith_regs (p : Params) : (State.resetWith p).regs = .zero := rfl
@[simp] theorem State.resetWith_status (p : Params) : (State.resetWith p).status = .zero := rfl
@[simp] theorem State.resetWith_ctx (p : Params) : (State.resetWith p).ctx = .zero := rfl
@[simp] theorem State.resetWith_sat (p : Params) : (State.resetWith p).sat = [] := rfl
@[simp] theorem State.resetWith_conv (p : Params) : (State.resetWith p).conv = [] := rfl
@[simp] theorem State.resetWith_phase (p : Params) : (State.resetWith p).phase = .idle := rfl
@[simp] theorem State.resetWith_mem (p : Params) : (State.resetWith p).mem = [] := rfl
@[simp] theorem State.resetWith_disturbed (p : Params) : (State.resetWith p).disturbed = false := rfl
@[simp] theorem State.resetWith_schedule (p : Params) : (State.resetWith p).schedule = [] := rfl

end Sys2Proof.Machine
end

