-- ==== Sys2Proof/Laws/Kernel.lean ====
section
/-! SUPPORT. What the shared operations of the kernels can do: lookups, admission, the pixel loop, `runKernel`. -/

namespace Sys2Proof.Machine

theorem map_fst_zip_sublist {α β : Type} (l : List α) (r : List β) : ((l.zip r).map Prod.fst).Sublist l := by
  induction l generalizing r with
  | nil => simp
  | cons a l ih =>
    cases r with
    | nil => simp
    | cons b r => simpa using ih r

/-! ### Visible pixels and spans -/

theorem State.mem_visible (s : State) (p : Pixel) :
    p ∈ s.visible ↔ p.1 < s.ctx.visW.toNat ∧ p.2 < s.ctx.visH.toNat := by
  obtain ⟨i, j⟩ := p
  simp only [State.visible, List.mem_flatMap, List.mem_range, List.mem_map, Prod.mk.injEq]
  constructor
  · rintro ⟨j', hj, i', hi, rfl, rfl⟩
    exact ⟨hi, hj⟩
  · rintro ⟨hi, hj⟩
    exact ⟨j, hj, i, hi, rfl, rfl⟩

theorem State.visible_nodup (s : State) : s.visible.Nodup := by
  refine List.nodup_flatMap.2 ⟨fun j _ => List.nodup_range.map fun a b h => (Prod.mk.inj h).1, ?_⟩
  refine List.nodup_range.imp fun {j k} hjk => ?_
  intro p hp hq
  obtain ⟨i, -, rfl⟩ := List.mem_map.1 hp
  obtain ⟨i', -, h⟩ := List.mem_map.1 hq
  exact hjk (Prod.mk.inj h).2.symm

theorem State.mem_srcSpan {s : State} {f : Format} {p : Pixel} {a : Int} (hp : p ∈ s.visible)
    (ha : a ∈ s.srcBytes f p) : a ∈ s.srcSpan f := List.mem_flatMap.2 ⟨p, hp, ha⟩

theorem State.mem_tgtSpan {s : State} {f : Format} {p : Pixel} {a : Int} (hp : p ∈ s.visible)
    (ha : a ∈ s.tgtBytes f p) : a ∈ s.tgtSpan f := List.mem_flatMap.2 ⟨p, hp, ha⟩

/-! ### Admission -/

theorem admits_nonneg {p : Params} {a : Int} (h : admits p a = true) : 0 ≤ a := by
  simp only [admits, Bool.and_eq_true, decide_eq_true_eq] at h
  exact h.1

theorem admits_lt {p : Params} {a : Int} (h : admits p a = true) : a.toNat < 2 ^ p.addrW := by
  simp only [admits, Bool.and_eq_true, decide_eq_true_eq] at h
  have h0 := h.1
  have h1 := h.2.1
  rw [← Int.toNat_of_nonneg h0] at h1
  exact_mod_cast h1

/-- No address of the list is unadmitted. -/
theorem lowestUnadmitted_eq_none (p : Params) (l : List Int) :
    lowestUnadmitted p l = none ↔ ∀ a ∈ l, admits p a = true := by
  simp [lowestUnadmitted, List.filter_eq_nil_iff]

/-- The address is the lowest unadmitted one of the list. -/
theorem lowestUnadmitted_eq_some (p : Params) (l : List Int) (a : Int) :
    lowestUnadmitted p l = some a ↔
      (a ∈ l ∧ admits p a = false) ∧ ∀ b ∈ l, admits p b = false → a ≤ b := by
  simp only [lowestUnadmitted, List.min?_eq_some_iff, List.mem_filter, Bool.not_eq_true', and_imp]

/-! ### Lookups (44_lut_cache.md R223) -/

/-- What a successful `LookupSat` leaves: the key was cached and nothing changes, or it is appended below the cap. -/
theorem State.lookupSat_eq_some {s t : State} {g : Count} (h : s.lookupSat g = some t) :
    (g ∈ s.sat ∧ t = s) ∨ (g ∉ s.sat ∧ s.sat.length < s.params.satCap ∧ t = { s with sat := s.sat ++ [g] }) := by
  simp only [State.lookupSat] at h
  split_ifs at h with h1 h2
  · exact .inl ⟨h1, (Option.some.inj h).symm⟩
  · exact .inr ⟨h1, h2, (Option.some.inj h).symm⟩

/-- `LookupSat` fails exactly when the key is new and the cache is full. -/
theorem State.lookupSat_eq_none (s : State) (g : Count) :
    s.lookupSat g = none ↔ g ∉ s.sat ∧ s.params.satCap ≤ s.sat.length := by
  simp only [State.lookupSat]
  split_ifs with h1 h2
  · simp [h1]
  · simpa [h1] using h2
  · simpa [h1] using h2

/-- What a successful `LookupConv` leaves. -/
theorem State.lookupConv_eq_some {s t : State} {gt gs : Count} (h : s.lookupConv gt gs = some t) :
    ((gt, gs) ∈ s.conv ∧ t = s) ∨
      ((gt, gs) ∉ s.conv ∧ s.conv.length < s.params.convCap ∧ t = { s with conv := s.conv ++ [(gt, gs)] }) := by
  simp only [State.lookupConv] at h
  split_ifs at h with h1 h2
  · exact .inl ⟨h1, (Option.some.inj h).symm⟩
  · exact .inr ⟨h1, h2, (Option.some.inj h).symm⟩

/-- `LookupConv` fails exactly when the key is new and the cache is full. -/
theorem State.lookupConv_eq_none (s : State) (gt gs : Count) :
    s.lookupConv gt gs = none ↔ (gt, gs) ∉ s.conv ∧ s.params.convCap ≤ s.conv.length := by
  simp only [State.lookupConv]
  split_ifs with h1 h2
  · simp [h1]
  · simpa [h1] using h2
  · simpa [h1] using h2

/-- A kernel's lookups, successful or not, change the cache lists only. -/
theorem Kernel.lookups_changes_caches_only (k : Kernel) (s t : State)
    (h : k.lookups s = .ok t ∨ k.lookups s = .error t) : t = { s with sat := t.sat, conv := t.conv } := by
  have hsat : ∀ {u : State}, s.lookupSat s.tgtGrays = some u → u = { s with sat := u.sat, conv := u.conv } := by
    intro u hu
    rcases State.lookupSat_eq_some hu with ⟨-, rfl⟩ | ⟨-, -, rfl⟩ <;> rfl
  simp only [Kernel.lookups] at h
  split at h
  · simp only [Except.ok.injEq, reduceCtorEq, or_false] at h
    rw [← h]
  · split at h
    · simp only [reduceCtorEq, Except.error.injEq, false_or] at h
      rw [← h]
    · next u hu =>
      simp only [Except.ok.injEq, reduceCtorEq, or_false] at h
      exact h ▸ hsat hu
  · split at h
    · simp only [reduceCtorEq, Except.error.injEq, false_or] at h
      rw [← h]
    · next u hu =>
      have e := hsat hu
      split at h
      · simp only [reduceCtorEq, Except.error.injEq, false_or] at h
        exact h ▸ e
      · next v hv =>
        simp only [Except.ok.injEq, reduceCtorEq, or_false] at h
        subst h
        rcases State.lookupConv_eq_some hv with ⟨-, rfl⟩ | ⟨-, -, rfl⟩
        · exact e
        · rw [e]

/-! ### The pixel loop -/

/-- What every pixel of the loop keeps, the loop keeps. -/
theorem Kernel.paint_induction {P : Canvas → Prop} (k : Kernel) (s : State) (c : Canvas) (h0 : P c)
    (hp : ∀ c, ∀ p ∈ s.visible, P c → P (k.paintPixel s c p)) : P (k.paint s c) := by
  have : ∀ l : List Pixel, (∀ p ∈ l, p ∈ s.visible) → ∀ c, P c → P (l.foldl (k.paintPixel s) c) := by
    intro l
    induction l with
    | nil => exact fun _ c hc => hc
    | cons p l ih =>
      intro hl c hc
      exact ih (fun q hq => hl q (List.mem_cons_of_mem p hq)) _ (hp c p (hl p List.mem_cons_self) hc)
  exact this s.visible (fun _ h => h) c h0

/-- One pixel writes its own bytes only. -/
theorem Kernel.read_paintPixel_other (k : Kernel) (s : State) (c : Canvas) (p : Pixel) (n : Nat)
    (h0 : ∀ a ∈ s.tgtBytes k.tf p, 0 ≤ a) (h : (n : Int) ∉ s.tgtBytes k.tf p) :
    Memory.read (k.paintPixel s c p).mem n = Memory.read c.mem n := by
  simp only [Kernel.paintPixel]
  split
  · rfl
  · exact Canvas.read_putAll_other _ _ _ (fun q hq => h0 _ (List.of_mem_zip hq).1)
      fun q hq e => h (e ▸ (List.of_mem_zip hq).1)
  · exact Canvas.read_scrambleAll_other _ _ _ h0 h

theorem Kernel.wf_paintPixel (k : Kernel) (s : State) (c : Canvas) (p : Pixel) (h : Memory.wf c.mem = true) :
    Memory.wf (k.paintPixel s c p).mem = true := by
  simp only [Kernel.paintPixel]
  split
  · exact h
  · exact Canvas.wf_putAll _ _ h
  · exact Canvas.wf_scrambleAll _ _ h

/-- A pixel never takes a free value back. -/
theorem Kernel.draws_le_paintPixel (k : Kernel) (s : State) (c : Canvas) (p : Pixel) :
    c.draws ≤ (k.paintPixel s c p).draws := by
  simp only [Kernel.paintPixel]
  split
  · exact le_rfl
  · rw [Canvas.draws_putAll]
  · rw [Canvas.draws_scrambleAll]
    exact Nat.le_add_right _ _

theorem Kernel.mem_paintPixel (k : Kernel) (s : State) (c : Canvas) (p : Pixel) (x : Host.Cell)
    (h : x ∈ (k.paintPixel s c p).mem) : x ∈ c.mem ∨ ∃ a ∈ s.tgtBytes k.tf p, x.1 = a.toNat := by
  simp only [Kernel.paintPixel] at h
  split at h
  · exact .inl h
  · rcases Canvas.mem_putAll _ _ _ h with h | ⟨q, hq, e⟩
    · exact .inl h
    · exact .inr ⟨q.1, (List.of_mem_zip hq).1, e⟩
  · exact Canvas.mem_scrambleAll _ _ _ h

/-- What a kernel leaves: every byte outside its target span. -/
theorem Kernel.read_composite_other (k : Kernel) (s : State) (n : Nat) (h0 : ∀ a ∈ s.tgtSpan k.tf, 0 ≤ a)
    (h : (n : Int) ∉ s.tgtSpan k.tf) : Memory.read (k.composite s).mem n = Memory.read s.mem n := by
  simp only [Kernel.composite]
  split
  · exact Canvas.read_scrambleAll_other _ _ _ h0 h
  · exact Kernel.paint_induction (P := fun d => Memory.read d.mem n = Memory.read s.mem n) k s s.canvas rfl
      fun c p hp hc => by
        rw [Kernel.read_paintPixel_other k s c p n (fun a ha => h0 a (State.mem_tgtSpan hp ha))
          fun ha => h (State.mem_tgtSpan hp ha), hc]

theorem Kernel.wf_composite (k : Kernel) (s : State) (h : Memory.wf s.mem = true) :
    Memory.wf (k.composite s).mem = true := by
  simp only [Kernel.composite]
  split
  · exact Canvas.wf_scrambleAll _ _ h
  · exact Kernel.paint_induction (P := fun d => Memory.wf d.mem = true) k s s.canvas h
      fun c p _ hc => Kernel.wf_paintPixel k s c p hc

/-- Every address a kernel lists was listed before, or lies in its target span. -/
theorem Kernel.mem_composite (k : Kernel) (s : State) (x : Host.Cell) (h : x ∈ (k.composite s).mem) :
    x ∈ s.mem ∨ ∃ a ∈ s.tgtSpan k.tf, x.1 = a.toNat := by
  simp only [Kernel.composite] at h
  split at h
  · exact Canvas.mem_scrambleAll _ _ _ h
  · revert x
    refine Kernel.paint_induction (P := fun d => ∀ x ∈ d.mem, x ∈ s.mem ∨ ∃ a ∈ s.tgtSpan k.tf, x.1 = a.toNat) k s
      s.canvas (fun x hx => .inl hx) fun c p hp hc x hx => ?_
    rcases Kernel.mem_paintPixel k s c p x hx with hx | ⟨a, ha, e⟩
    · exact hc x hx
    · exact .inr ⟨a, State.mem_tgtSpan hp ha, e⟩

/-- With disjoint, untouched spans a kernel runs its pixel loop. -/
theorem Kernel.composite_of_undisturbed (k : Kernel) (s : State) (hq : s.disturbed = false)
    (h : ∀ a ∈ s.srcSpan k.sf, a ∉ s.tgtSpan k.tf) : k.composite s = k.paint s s.canvas := by
  have : s.overlap k.sf k.tf = false := by
    simp only [State.overlap, List.any_eq_false, List.contains_iff_mem]
    exact h
  simp [Kernel.composite, hq, this]

/-- With overlapping or disturbed spans a kernel frees its whole target span (20_memory.md R75, R76). -/
theorem Kernel.composite_of_free (k : Kernel) (s : State)
    (h : s.disturbed = true ∨ ∃ a ∈ s.srcSpan k.sf, a ∈ s.tgtSpan k.tf) :
    k.composite s = s.canvas.scrambleAll (s.tgtSpan k.tf) := by
  rw [Kernel.composite, if_pos]
  rcases h with h | ⟨a, ha, hb⟩
  · simp [h]
  · simp only [State.overlap, Bool.or_eq_true, List.any_eq_true]
    exact .inr ⟨a, ha, by simpa using hb⟩

/-- What a law does depends on the bytes of the pixel alone: canvases that agree on them give the same. -/
theorem Kernel.act_congr (k : Kernel) (s : State) (c d : Canvas) (p : Pixel)
    (hs : c.pixel (s.srcBytes k.sf p) = d.pixel (s.srcBytes k.sf p))
    (ht : c.pixel (s.tgtBytes k.tf p) = d.pixel (s.tgtBytes k.tf p)) : k.act s c p = k.act s d p := by
  simp only [Kernel.act, hs, ht]

/-- Canvases that read alike at the addresses of a pixel give the same pixel. -/
theorem Canvas.pixel_congr (c d : Canvas) (l : List Int) (h : ∀ a ∈ l, c.byte a = d.byte a) :
    c.pixel l = d.pixel l := by
  funext k
  simp only [Canvas.pixel]
  split
  · next a ha => exact h a (List.mem_of_getElem? ha)
  · rfl

/-- Where no other visible pixel shares its bytes, a pixel is painted from the memory the command began with: the loop
meets it on a canvas that reads alike at its own bytes, and leaves it as painted there; the free values drawn for it lie
among those of the loop. -/
theorem Kernel.paint_apart (k : Kernel) (s : State) (c : Canvas) (p : Pixel) (hp : p ∈ s.visible)
    (hsrc0 : ∀ a ∈ s.srcSpan k.sf, 0 ≤ a) (htgt0 : ∀ a ∈ s.tgtSpan k.tf, 0 ≤ a)
    (hdis : ∀ a ∈ s.srcSpan k.sf, a ∉ s.tgtSpan k.tf)
    (hapart : ∀ p ∈ s.visible, ∀ q ∈ s.visible, p ≠ q → ∀ a ∈ s.tgtBytes k.tf p, a ∉ s.tgtBytes k.tf q)
    (hwf : Memory.wf c.mem = true) :
    ∃ d : Canvas, Memory.wf d.mem = true ∧ k.act s d p = k.act s c p ∧
      (∀ n : Nat, (n : Int) ∈ s.tgtBytes k.tf p → Memory.read d.mem n = Memory.read c.mem n) ∧
      (∀ n : Nat, (n : Int) ∈ s.tgtBytes k.tf p →
        Memory.read (k.paint s c).mem n = Memory.read (k.paintPixel s d p).mem n) ∧
      c.draws ≤ d.draws ∧ (k.paintPixel s d p).draws ≤ (k.paint s c).draws := by
  obtain ⟨l, r, hlr⟩ := List.append_of_mem hp
  have hnd := s.visible_nodup
  rw [hlr] at hnd
  have hmem : ∀ q, q ∈ l ∨ q ∈ r → q ∈ s.visible ∧ q ≠ p := by
    intro q hq
    have hnd' := (List.nodup_middle.1 hnd)
    rw [List.nodup_cons] at hnd'
    refine ⟨hlr ▸ ?_, fun e => hnd'.1 (e ▸ List.mem_append.2 hq)⟩
    rcases hq with hq | hq <;> simp [hq]
  -- a byte that no pixel of a list holds is left alone by that part of the loop
  have hfold : ∀ (m : List Pixel) (d : Canvas) (n : Nat), (∀ q ∈ m, q ∈ s.visible) →
      (∀ q ∈ m, (n : Int) ∉ s.tgtBytes k.tf q) →
      Memory.read (m.foldl (k.paintPixel s) d).mem n = Memory.read d.mem n := by
    intro m
    induction m with
    | nil => exact fun _ _ _ _ => rfl
    | cons q m ih =>
      intro d n hv hn
      rw [List.foldl_cons, ih _ n (fun x hx => hv x (List.mem_cons_of_mem q hx)) fun x hx =>
        hn x (List.mem_cons_of_mem q hx)]
      exact Kernel.read_paintPixel_other k s d q n
        (fun a ha => htgt0 a (State.mem_tgtSpan (hv q List.mem_cons_self) ha)) (hn q List.mem_cons_self)
  have hwfold : ∀ (m : List Pixel) (d : Canvas), Memory.wf d.mem = true →
      Memory.wf (m.foldl (k.paintPixel s) d).mem = true := by
    intro m
    induction m with
    | nil => exact fun _ h => h
    | cons q m ih => exact fun d h => ih _ (Kernel.wf_paintPixel k s d q h)
  have hdraws : ∀ (m : List Pixel) (d : Canvas), d.draws ≤ (m.foldl (k.paintPixel s) d).draws := by
    intro m
    induction m with
    | nil => exact fun _ => le_rfl
    | cons q m ih => exact fun d => (Kernel.draws_le_paintPixel k s d q).trans (ih _)
  have hl : ∀ n : Nat, (n : Int) ∈ s.tgtBytes k.tf p ∨ (n : Int) ∈ s.srcBytes k.sf p →
      Memory.read (l.foldl (k.paintPixel s) c).mem n = Memory.read c.mem n := by
    intro n hn
    refine hfold l c n (fun q hq => (hmem q (.inl hq)).1) fun q hq hm => ?_
    obtain ⟨hqv, hqp⟩ := hmem q (.inl hq)
    rcases hn with hn | hn
    · exact hapart q hqv p hp hqp _ hm hn
    · exact hdis _ (State.mem_srcSpan hp hn) (State.mem_tgtSpan hqv hm)
  have hbyte : ∀ a : Int, 0 ≤ a → (a ∈ s.tgtBytes k.tf p ∨ a ∈ s.srcBytes k.sf p) →
      (l.foldl (k.paintPixel s) c).byte a = c.byte a := by
    intro a ha hm
    have := hl a.toNat (by rwa [Int.toNat_of_nonneg ha])
    exact this
  refine ⟨l.foldl (k.paintPixel s) c, hwfold l c hwf, ?_, fun n hn => hl n (.inl hn), fun n hn => ?_,
    hdraws l c, ?_⟩
  · exact Kernel.act_congr k s _ _ p
      (Canvas.pixel_congr _ _ _ fun a ha => hbyte a (hsrc0 a (State.mem_srcSpan hp ha)) (.inr ha))
      (Canvas.pixel_congr _ _ _ fun a ha => hbyte a (htgt0 a (State.mem_tgtSpan hp ha)) (.inl ha))
  · rw [Kernel.paint, hlr, List.foldl_append, List.foldl_cons]
    refine hfold r _ n (fun q hq => (hmem q (.inr hq)).1) fun q hq hm => ?_
    obtain ⟨hqv, hqp⟩ := hmem q (.inr hq)
    exact hapart q hqv p hp hqp _ hm hn
  · rw [Kernel.paint, hlr, List.foldl_append, List.foldl_cons]
    exact hdraws r _

/-- A skipped pixel keeps its bytes. -/
theorem Kernel.paint_skip (k : Kernel) (s : State) (c : Canvas) (p : Pixel) (hp : p ∈ s.visible)
    (hsrc0 : ∀ a ∈ s.srcSpan k.sf, 0 ≤ a) (htgt0 : ∀ a ∈ s.tgtSpan k.tf, 0 ≤ a)
    (hdis : ∀ a ∈ s.srcSpan k.sf, a ∉ s.tgtSpan k.tf)
    (hapart : ∀ p ∈ s.visible, ∀ q ∈ s.visible, p ≠ q → ∀ a ∈ s.tgtBytes k.tf p, a ∉ s.tgtBytes k.tf q)
    (hwf : Memory.wf c.mem = true) (hact : k.act s c p = .skip) (a : Int) (ha : a ∈ s.tgtBytes k.tf p) :
    (k.paint s c).byte a = c.byte a := by
  obtain ⟨d, -, hd, hread, hpaint, -⟩ := Kernel.paint_apart k s c p hp hsrc0 htgt0 hdis hapart hwf
  have ha0 := htgt0 a (State.mem_tgtSpan hp ha)
  have ha' : ((a.toNat : Nat) : Int) ∈ s.tgtBytes k.tf p := by rwa [Int.toNat_of_nonneg ha0]
  simp only [Canvas.byte]
  rw [hpaint _ ha', Kernel.paintPixel, hd, hact]
  exact hread _ ha'

/-- A painted pixel holds what its law puts, byte by byte. -/
theorem Kernel.paint_put (k : Kernel) (s : State) (c : Canvas) (p : Pixel) (hp : p ∈ s.visible)
    (hsrc0 : ∀ a ∈ s.srcSpan k.sf, 0 ≤ a) (htgt0 : ∀ a ∈ s.tgtSpan k.tf, 0 ≤ a)
    (hdis : ∀ a ∈ s.srcSpan k.sf, a ∉ s.tgtSpan k.tf)
    (hapart : ∀ p ∈ s.visible, ∀ q ∈ s.visible, p ≠ q → ∀ a ∈ s.tgtBytes k.tf p, a ∉ s.tgtBytes k.tf q)
    (hwf : Memory.wf c.mem = true) (hnd : (s.tgtBytes k.tf p).Nodup) (bytes : List Byte)
    (hact : k.act s c p = .put bytes) (i : Nat) (a : Int) (v : Byte) (ha : (s.tgtBytes k.tf p)[i]? = some a)
    (hv : bytes[i]? = some v) : (k.paint s c).byte a = v := by
  obtain ⟨d, hwfd, hd, -, hpaint, -⟩ := Kernel.paint_apart k s c p hp hsrc0 htgt0 hdis hapart hwf
  have hmem := List.mem_of_getElem? ha
  have ha0 := htgt0 a (State.mem_tgtSpan hp hmem)
  simp only [Canvas.byte]
  rw [hpaint _ (by rwa [Int.toNat_of_nonneg ha0]), Kernel.paintPixel, hd, hact]
  refine Canvas.read_putAll_mem _ d hwfd
    (fun q hq => htgt0 _ (State.mem_tgtSpan hp (List.of_mem_zip hq).1)) ?_ (a, v) ?_
  · exact hnd.sublist (map_fst_zip_sublist _ _)
  · refine List.mem_of_getElem? (i := i) ?_
    rw [List.getElem?_zip_eq_some]
    exact ⟨ha, hv⟩

/-- A freed pixel holds free values that the loop draws, byte by byte. -/
theorem Kernel.paint_any (k : Kernel) (s : State) (c : Canvas) (p : Pixel) (hp : p ∈ s.visible)
    (hsrc0 : ∀ a ∈ s.srcSpan k.sf, 0 ≤ a) (htgt0 : ∀ a ∈ s.tgtSpan k.tf, 0 ≤ a)
    (hdis : ∀ a ∈ s.srcSpan k.sf, a ∉ s.tgtSpan k.tf)
    (hapart : ∀ p ∈ s.visible, ∀ q ∈ s.visible, p ≠ q → ∀ a ∈ s.tgtBytes k.tf p, a ∉ s.tgtBytes k.tf q)
    (hwf : Memory.wf c.mem = true) (hact : k.act s c p = .any) (a : Int) (ha : a ∈ s.tgtBytes k.tf p) :
    ∃ n, c.draws ≤ n ∧ n < (k.paint s c).draws ∧ (k.paint s c).byte a = Config.freeByte n := by
  obtain ⟨d, hwfd, hd, -, hpaint, hle, hge⟩ := Kernel.paint_apart k s c p hp hsrc0 htgt0 hdis hapart hwf
  have ha0 := htgt0 a (State.mem_tgtSpan hp ha)
  have e : k.paintPixel s d p = d.scrambleAll (s.tgtBytes k.tf p) := by rw [Kernel.paintPixel, hd, hact]
  obtain ⟨n, h1, h2, h3⟩ := Canvas.byte_scrambleAll_mem (s.tgtBytes k.tf p) d hwfd a ha
  refine ⟨n, hle.trans h1, h2.trans_le (e ▸ hge), ?_⟩
  rw [← h3, Canvas.byte, hpaint _ (by rwa [Int.toNat_of_nonneg ha0]), e]
  rfl

/-! ### RunKernel -/

/-- Everything `runKernel` can do when it answers a next state: a failed lookup raises -3; otherwise every address of
the access set is admitted and the kernel completes. -/
theorem runKernel_next {k : Kernel} {s t : State} (h : runKernel k s = .next t) :
    (∃ s1, k.lookups s = .error s1 ∧ t = s1.raiseStatus (-3) .tableCache) ∨
      ∃ s1, k.lookups s = .ok s1 ∧ (∀ a ∈ k.accessSet s1, admits s1.params a = true) ∧
        t = (s1.withCanvas (k.composite s1)).finishOk false k.id := by
  simp only [runKernel] at h
  split at h
  · next s1 hs =>
    exact .inl ⟨s1, hs, (Host.Outcome.next.inj h).symm⟩
  · next s1 hs =>
    split at h
    · cases h
    · next hn => exact .inr ⟨s1, hs, (lowestUnadmitted_eq_none _ _).1 hn, (Host.Outcome.next.inj h).symm⟩

/-- `runKernel` completes when its lookups succeed and every address of the access set is admitted. -/
theorem runKernel_of_admitted {k : Kernel} {s s1 : State} (hl : k.lookups s = .ok s1)
    (ha : ∀ a ∈ k.accessSet s1, admits s1.params a = true) :
    runKernel k s = .next ((s1.withCanvas (k.composite s1)).finishOk false k.id) := by
  simp only [runKernel, hl, (lowestUnadmitted_eq_none _ _).2 ha]

end Sys2Proof.Machine
end

