-- ==== Sys2Proof/Laws/Command.lean ====
section
/-! SUPPORT. What an instruction, the front end of a command and a step can do, said once for each. -/

namespace Sys2Proof.Machine

/-- A state after an event that touches only the schedule, the host's port data and the free values. -/
def State.aside (s : State) (l : List Event) (d : Word) (n : Nat) : State :=
  { s with schedule := l, portData := d, draws := n }

section
variable (s : State) (l : List Event) (d : Word) (n : Nat)

@[simp] theorem State.aside_params : (s.aside l d n).params = s.params := rfl
@[simp] theorem State.aside_regs : (s.aside l d n).regs = s.regs := rfl
@[simp] theorem State.aside_status : (s.aside l d n).status = s.status := rfl
@[simp] theorem State.aside_ctx : (s.aside l d n).ctx = s.ctx := rfl
@[simp] theorem State.aside_sat : (s.aside l d n).sat = s.sat := rfl
@[simp] theorem State.aside_conv : (s.aside l d n).conv = s.conv := rfl
@[simp] theorem State.aside_phase : (s.aside l d n).phase = s.phase := rfl
@[simp] theorem State.aside_mem : (s.aside l d n).mem = s.mem := rfl
@[simp] theorem State.aside_disturbed : (s.aside l d n).disturbed = s.disturbed := rfl
@[simp] theorem State.aside_schedule : (s.aside l d n).schedule = l := rfl

end

theorem State.withSchedule_eq_aside (s : State) (l : List Event) : s.withSchedule l = s.aside l s.portData s.draws := rfl

/-- A kernel row runs its kernel. -/
theorem exec_of_kernelOf {i : Instr} {k : Kernel} (h : kernelOf i = some k) (s : State) : exec i s = runKernel k s := by
  cases i <;> simp only [kernelOf, reduceCtorEq, Option.some.injEq] at h <;> subst h <;> rfl

/-- The kernel of a row of the dispatch table has the formats of the row; only gray into gray looks up tables. -/
theorem kernelOf_dispatchRow {sf tf : Format} {geq tg2 s256 sg2 : Bool} {k : Kernel}
    (h : kernelOf (dispatchRow sf tf geq tg2 s256 sg2) = some k) :
    k.sf = sf ∧ k.tf = tf ∧ k.id.toNat ≤ 24 ∧
      (k.tables ≠ .none → sf = .gray ∧ tf = .gray ∧ tg2 = true ∧ sg2 = true) ∧ (k.tables = .sat → geq = true) ∧
      (k.tables = .satConv → geq = false) := by
  cases sf <;> cases tf <;> first
    | (cases h; done)
    | (cases h; exact ⟨rfl, rfl, by decide, nofun, nofun, nofun⟩)
    | (cases sg2 <;> first
        | (cases h; done)
        | (cases h; exact ⟨rfl, rfl, by decide, nofun, nofun, nofun⟩)
        | (cases s256 <;> first
            | (cases h; exact ⟨rfl, rfl, by decide, nofun, nofun, nofun⟩)
            | (cases tg2 <;> cases geq <;> first
              | (cases h; done)
              | (cases h; exact ⟨rfl, rfl, by decide, fun _ => ⟨rfl, rfl, rfl, rfl⟩, nofun, fun _ => rfl⟩)
              | (cases h; exact ⟨rfl, rfl, by decide, fun _ => ⟨rfl, rfl, rfl, rfl⟩, fun _ => rfl, nofun⟩))))

/-- Everything an instruction can do: run a kernel, start a command, or end one in one of four fixed outcomes. -/
theorem exec_cases (i : Instr) (s : State) :
    (∃ k, kernelOf i = some k ∧ exec i s = runKernel k s) ∨ (∃ w, i = .start w ∧ exec i s = execStart s) ∨
      (kernelOf i = none ∧
        (exec i s = .next (s.raiseStatus (-2) .sourceDepth) ∨ exec i s = .next (s.raiseStatus (-1) .targetDepth) ∨
          exec i s = .next (s.raiseStatus (-1) .argument) ∨ exec i s = .next (s.finishOk true 0))) := by
  cases i
  case start w => exact .inr (.inl ⟨w, rfl, rfl⟩)
  all_goals first
    | exact .inl ⟨_, rfl, rfl⟩
    | exact .inr (.inr ⟨rfl, .inl rfl⟩)
    | exact .inr (.inr ⟨rfl, .inr (.inl rfl)⟩)
    | exact .inr (.inr ⟨rfl, .inr (.inr (.inl rfl))⟩)
    | exact .inr (.inr ⟨rfl, .inr (.inr (.inr rfl))⟩)

theorem exec_start (w : BitVec 31) (s : State) : exec (.start w) s = execStart s := rfl

theorem execStart_busy {s : State} (h : s.phase = .busy) : execStart s = .next s := by simp [execStart, h]

theorem execStart_idle {s : State} (h : s.phase = .idle) : execStart s = .next s.started.frontEnd := by
  simp [execStart, h]

theorem State.nullBitmap_eq_true (s : State) : s.nullBitmap = true ↔ s.srcBase = 0 ∨ s.tgtBase = 0 := by
  simp [State.nullBitmap]

theorem State.zeroSize_eq_true (s : State) : s.zeroSize = true ↔ s.srcWidth = 0 ∨ s.srcHeight = 0 := by
  simp [State.zeroSize]

/-- Everything the front end can do. -/
theorem State.frontEnd_cases (s : State) :
    (s.nullBitmap = true ∧ s.frontEnd = (s.withCtx .zero).raiseStatus (-1) .argument) ∨
      (s.nullBitmap = false ∧ (s.zeroSize = true ∨ s.clip = none) ∧
        s.frontEnd = (s.withCtx .zero).finishOk true 0) ∨
      ∃ c, s.nullBitmap = false ∧ s.zeroSize = false ∧ s.clip = some c ∧ s.frontEnd = s.withCtx (c.ctx s.formKey) := by
  cases hn : s.nullBitmap
  · cases hz : s.zeroSize
    · cases hc : s.clip
      · exact .inr (.inl ⟨rfl, .inr rfl, by simp [State.frontEnd, hn, hz, hc]⟩)
      · next c => exact .inr (.inr ⟨c, rfl, rfl, rfl, by simp [State.frontEnd, hn, hz, hc]⟩)
    · exact .inr (.inl ⟨rfl, .inl rfl, by simp [State.frontEnd, hn, hz]⟩)
  · exact .inl ⟨rfl, by simp [State.frontEnd, hn]⟩

/-- Everything the unit's turn can do. -/
theorem State.unitTurn_cases (s : State) :
    (s.phase = .idle ∧ s.unitTurn = .done (.next s)) ∨
      (s.phase = .busy ∧ ∃ i, decodeKey s.ctx.shownKey = .ok i ∧ s.unitTurn = .run i s) ∨
      (s.phase = .busy ∧ (∃ e, decodeKey s.ctx.shownKey = .error e) ∧
        s.unitTurn = .done (.refused (.reservedKey s.ctx.shownKey))) := by
  cases hp : s.phase
  · exact .inl ⟨rfl, by simp [State.unitTurn, hp]⟩
  · cases hd : decodeKey s.ctx.shownKey
    · next e => exact .inr (.inr ⟨rfl, ⟨e, rfl⟩, by simp [State.unitTurn, State.pendingInstr, hp, hd]⟩)
    · next i => exact .inr (.inl ⟨rfl, i, rfl, by simp [State.unitTurn, State.pendingInstr, hp, hd]⟩)

/-- `CTRL` words with bit 0 set are `START`, the others nothing. -/
theorem decodeCtrl_cases (w : Word) :
    (w.getLsbD 0 = true ∧ decodeCtrl w = .ok (.start (w.extractLsb' 1 31))) ∨
      (w.getLsbD 0 = false ∧ ∃ e, decodeCtrl w = .error e) := by
  cases h : w.getLsbD 0
  · exact .inr ⟨rfl, .noStart, by simp only [decodeCtrl, h, Bool.false_eq_true, if_false]⟩
  · exact .inl ⟨rfl, by simp only [decodeCtrl, h, if_true]⟩

/-- Everything a step that answers a next state can do. -/
theorem step_cases {s t : State} (h : step s = .next t) :
    (∃ i l d n, s.phase = .busy ∧ decodeKey s.ctx.shownKey = .ok i ∧ exec i (s.aside l d n) = .next t) ∨
      (∃ w l, execStart (s.withSchedule l) = .next t ∧ exec (.start w) (s.withSchedule l) = .next t) ∨
      (∃ l d n, t = s.aside l d n) ∨
      (∃ l r v, t = (s.withSchedule l).writeReg r v) ∨
      (∃ l a v, a < 2 ^ s.params.addrW ∧ t = (s.withSchedule l).hostMemWrite a v) ∨
      (∃ l a, a < 2 ^ s.params.addrW ∧ t = (s.withSchedule l).hostMemRead a) ∨
      ∃ l, s.schedule = .reset :: l ∧ t = (s.withSchedule l).resetBlock := by
  have hunit : ∀ l d n, (match (s.aside l d n).unitTurn with | .run i s1 => exec i s1 | .done o => o) = .next t →
      (∃ i l d n, s.phase = .busy ∧ decodeKey s.ctx.shownKey = .ok i ∧ exec i (s.aside l d n) = .next t) ∨
        ∃ l d n, t = s.aside l d n := by
    intro l d n h
    rcases (s.aside l d n).unitTurn_cases with ⟨-, e⟩ | ⟨hp, i, hi, e⟩ | ⟨-, -, e⟩ <;> rw [e] at h
    · exact .inr ⟨l, d, n, (Host.Outcome.next.inj h).symm⟩
    · exact .inl ⟨i, l, d, n, hp, hi, h⟩
    · cases h
  have hread : ∀ l r, (s.withSchedule l).hostRead r = s.aside l ((s.withSchedule l).readPort r)
      (if (s.withSchedule l).readIsFree r then s.draws + 1 else s.draws) := fun _ _ => rfl
  cases hs : s.schedule with
  | nil =>
    simp only [step, turn, hs] at h
    exact (hunit s.schedule s.portData s.draws h).elim .inl fun h => .inr (.inr (.inl h))
  | cons e l =>
    cases e with
    | unit =>
      simp only [step, turn, hs] at h
      exact (hunit l s.portData s.draws h).elim .inl fun h => .inr (.inr (.inl h))
    | portWrite a b v =>
      simp only [step, turn, hs, State.portWrite] at h
      cases ho : portOffset (s.withSchedule l).params a b with
      | none =>
        rw [ho] at h
        cases h
      | some offset =>
        rw [ho] at h
        cases hr : Reg.ofOffset offset <;> simp only [hr] at h
        case ctrl =>
          rcases decodeCtrl_cases v with ⟨-, e⟩ | ⟨-, e, he⟩
          · rw [e] at h
            exact .inr (.inl ⟨_, l, h, h⟩)
          · rw [he] at h
            exact .inr (.inr (.inl ⟨l, s.portData, s.draws, (Host.Outcome.next.inj h).symm⟩))
        all_goals exact .inr (.inr (.inr (.inl ⟨l, _, v, (Host.Outcome.next.inj h).symm⟩)))
    | portRead a b =>
      simp only [step, turn, hs, State.portRead] at h
      cases ho : portOffset (s.withSchedule l).params a b with
      | none =>
        rw [ho] at h
        cases h
      | some offset =>
        rw [ho] at h
        exact .inr (.inr (.inl ⟨l, _, _, (Host.Outcome.next.inj h).symm.trans (hread l _)⟩))
    | poll =>
      cases hp : s.phase <;> simp only [step, turn, hs, hp] at h
      · exact .inr (.inr (.inl ⟨l, _, _, (Host.Outcome.next.inj h).symm.trans (hread l _)⟩))
      · exact (hunit s.schedule _ _ h).elim (fun ⟨i, l, d, n, _, e⟩ => .inl ⟨i, l, d, n, rfl, e⟩)
          fun h => .inr (.inr (.inl h))
    | memWrite a v =>
      simp only [step, turn, hs, inMemorySpace, decide_eq_true_eq] at h
      split_ifs at h with ha
      exact .inr (.inr (.inr (.inr (.inl ⟨l, a, v, ha, (Host.Outcome.next.inj h).symm⟩))))
    | memRead a =>
      simp only [step, turn, hs, inMemorySpace, decide_eq_true_eq] at h
      split_ifs at h with ha
      exact .inr (.inr (.inr (.inr (.inr (.inl ⟨l, a, ha, (Host.Outcome.next.inj h).symm⟩)))))
    | reset =>
      simp only [step, turn, hs] at h
      exact .inr (.inr (.inr (.inr (.inr (.inr ⟨l, rfl, (Host.Outcome.next.inj h).symm⟩)))))

/-- Everything an instruction that answers a next state can do. -/
theorem exec_next {i : Instr} {s t : State} (h : exec i s = .next t) :
    (∃ k s1, kernelOf i = some k ∧ k.lookups s = .error s1 ∧ t = s1.raiseStatus (-3) .tableCache) ∨
      (∃ k s1, kernelOf i = some k ∧ k.lookups s = .ok s1 ∧ (∀ a ∈ k.accessSet s1, admits s1.params a = true) ∧
        t = (s1.withCanvas (k.composite s1)).finishOk false k.id) ∨
      (∃ w, i = .start w ∧ execStart s = .next t) ∨
      (kernelOf i = none ∧
        (t = s.raiseStatus (-2) .sourceDepth ∨ t = s.raiseStatus (-1) .targetDepth ∨ t = s.raiseStatus (-1) .argument ∨
          t = s.finishOk true 0)) := by
  rcases exec_cases i s with ⟨k, hk, e⟩ | ⟨w, hw, e⟩ | ⟨hk, e⟩
  · rcases runKernel_next (e ▸ h) with ⟨s1, h1, h2⟩ | ⟨s1, h1, h2⟩
    · exact .inl ⟨k, s1, hk, h1, h2⟩
    · exact .inr (.inl ⟨k, s1, hk, h1, h2⟩)
  · exact .inr (.inr (.inl ⟨w, hw, e ▸ h⟩))
  · refine .inr (.inr (.inr ⟨hk, ?_⟩))
    rcases e with e | e | e | e <;> rw [e] at h <;> cases Host.Outcome.next.inj h <;> simp

/-! ### What an event aside leaves alone -/

theorem State.lookupSat_aside (s : State) (l : List Event) (d : Word) (n : Nat) (g : Count) :
    (s.aside l d n).lookupSat g = (s.lookupSat g).map (·.aside l d n) := by
  unfold State.lookupSat
  by_cases h1 : g ∈ s.sat
  · rw [if_pos h1, if_pos (show g ∈ (s.aside l d n).sat from h1)]
    rfl
  rw [if_neg h1, if_neg (show g ∉ (s.aside l d n).sat from h1)]
  by_cases h2 : s.sat.length < s.params.satCap
  · rw [if_pos h2, if_pos (show (s.aside l d n).sat.length < (s.aside l d n).params.satCap from h2)]
    rfl
  · rw [if_neg h2, if_neg (show ¬(s.aside l d n).sat.length < (s.aside l d n).params.satCap from h2)]
    rfl

theorem State.lookupConv_aside (s : State) (l : List Event) (d : Word) (n : Nat) (gt gs : Count) :
    (s.aside l d n).lookupConv gt gs = (s.lookupConv gt gs).map (·.aside l d n) := by
  unfold State.lookupConv
  by_cases h1 : (gt, gs) ∈ s.conv
  · rw [if_pos h1, if_pos (show (gt, gs) ∈ (s.aside l d n).conv from h1)]
    rfl
  rw [if_neg h1, if_neg (show (gt, gs) ∉ (s.aside l d n).conv from h1)]
  by_cases h2 : s.conv.length < s.params.convCap
  · rw [if_pos h2, if_pos (show (s.aside l d n).conv.length < (s.aside l d n).params.convCap from h2)]
    rfl
  · rw [if_neg h2, if_neg (show ¬(s.aside l d n).conv.length < (s.aside l d n).params.convCap from h2)]
    rfl

/-- A kernel's lookups do not see the schedule, the host's port data and the free values. -/
theorem Kernel.lookups_aside (k : Kernel) (s : State) (l : List Event) (d : Word) (n : Nat) :
    k.lookups (s.aside l d n) =
      match k.lookups s with
      | .ok s1 => .ok (s1.aside l d n)
      | .error s1 => .error (s1.aside l d n) := by
  have ht : (s.aside l d n).tgtGrays = s.tgtGrays := rfl
  have hs : (s.aside l d n).srcGrays = s.srcGrays := rfl
  simp only [Kernel.lookups, ht, hs, State.lookupSat_aside]
  cases k.tables with
  | none => rfl
  | sat => cases s.lookupSat s.tgtGrays <;> rfl
  | satConv =>
    cases s.lookupSat s.tgtGrays with
    | none => rfl
    | some s1 =>
      simp only [Option.map_some, State.lookupConv_aside]
      cases s1.lookupConv s.tgtGrays s.srcGrays <;> rfl

theorem State.pendingTarget_aside (s : State) (l : List Event) (d : Word) (n : Nat) :
    (s.aside l d n).pendingTarget = s.pendingTarget := by
  have hi : (s.aside l d n).pendingInstr = s.pendingInstr := rfl
  simp only [State.pendingTarget, State.pendingKernel, hi, State.aside_phase, Kernel.lookups_aside]
  cases hp : s.phase with
  | idle => rfl
  | busy =>
    cases hi : s.pendingInstr with
    | error e => rfl
    | ok i =>
      cases hk : kernelOf i with
      | none => simp only [hk]
      | some k =>
        cases hl : k.lookups s
        · simp only [hk, hl]
        · simp only [hk, hl]
          rfl

theorem State.cachesAfter_aside (s : State) (l : List Event) (d : Word) (n : Nat) :
    (s.aside l d n).cachesAfter = s.cachesAfter := by
  have hi : (s.aside l d n).pendingInstr = s.pendingInstr := rfl
  simp only [State.cachesAfter, hi, Kernel.lookups_aside]
  cases hi : s.pendingInstr with
  | error e => rfl
  | ok i =>
    cases hk : kernelOf i with
    | none => simp only [hk, State.aside_sat, State.aside_conv]
    | some k => cases hl : k.lookups s <;> simp only [hk, hl] <;> rfl

/-! ### What the host reads of an ended command, and the rows with no kernel -/

/-- `STATUS` after `finish_ok`. -/
theorem State.statusWord_finishOk (s : State) (b : Bool) (k : BitVec 5) : (s.finishOk b k).statusWord =
    0#3 ++ k ++ 0#4 ++ 0#4 ++ 0#8 ++ 0#5 ++ BitVec.ofBool b ++ 1#1 ++ 0#1 := rfl

/-- `STATUS` after `raise`. -/
theorem State.statusWord_raiseStatus (s : State) (e : Int) (k : ErrorKind) : (s.raiseStatus e k).statusWord =
    0#3 ++ 0#5 ++ 0#4 ++ k.code ++ BitVec.ofInt 8 e ++ 0#5 ++ 0#1 ++ 1#1 ++ 0#1 := rfl

/-- Memory after the platform's reset is in canonical form. -/
theorem State.wf_resetBlock (s : State) (h : Memory.wf s.mem = true) : Memory.wf s.resetBlock.mem = true :=
  Canvas.wf_scrambleAll _ _ h

/-- Memory after a host write is in canonical form. -/
theorem State.wf_hostMemWrite (s : State) (a : Nat) (v : Byte) (h : Memory.wf s.mem = true) :
    Memory.wf (s.hostMemWrite a v).mem = true := Memory.wf_write _ _ _ h

/-- The machine's memory right after reset is in canonical form. -/
theorem State.wf_reset : Memory.wf State.reset.mem = true := rfl

end Sys2Proof.Machine
end

