-- ==== Sys2Proof/Laws/Decode.lean ====
section
/-! SUPPORT. The fields of a key made from its fields, and what a formed key decodes to. -/

namespace Sys2Proof

@[simp] theorem Format.ofCode_code (f : Format) : Format.ofCode f.code = f := by cases f <;> rfl

@[simp] theorem Format.code_ofCode (c : BitVec 4) : (Format.ofCode c).code = c := by revert c; decide

section
variable (sf tf : Format) (geq tg2 s256 sg2 : Bool)

/-- Bit `i` of a key made from fields. -/
theorem keyOf_getLsbD (i : Nat) : (keyOf sf tf geq tg2 s256 sg2).getLsbD i =
    if i < 4 then sf.code.getLsbD i else if i - 4 < 4 then tf.code.getLsbD (i - 4)
    else if i - 4 - 4 < 1 then (BitVec.ofBool sg2).getLsbD (i - 4 - 4)
    else if i - 4 - 4 - 1 < 1 then (BitVec.ofBool s256).getLsbD (i - 4 - 4 - 1)
    else if i - 4 - 4 - 1 - 1 < 1 then (BitVec.ofBool tg2).getLsbD (i - 4 - 4 - 1 - 1)
    else if i - 4 - 4 - 1 - 1 - 1 < 1 then (BitVec.ofBool geq).getLsbD (i - 4 - 4 - 1 - 1 - 1)
    else (0#4).getLsbD (i - 4 - 4 - 1 - 1 - 1 - 1) := by
  have e : (keyOf sf tf geq tg2 s256 sg2).getLsbD i = (0#4 ++ BitVec.ofBool geq ++ BitVec.ofBool tg2 ++
      BitVec.ofBool s256 ++ BitVec.ofBool sg2 ++ tf.code ++ sf.code).getLsbD i := rfl
  rw [e]
  simp only [BitVec.getLsbD_append]

@[simp] theorem keyOf_sf : (keyOf sf tf geq tg2 s256 sg2).extractLsb' 0 4 = sf.code :=
  BitVec.eq_of_getLsbD_eq fun i hi => by simp [keyOf_getLsbD, hi]

@[simp] theorem keyOf_tf : (keyOf sf tf geq tg2 s256 sg2).extractLsb' 4 4 = tf.code :=
  BitVec.eq_of_getLsbD_eq fun i hi => by simp [keyOf_getLsbD, hi]

theorem keyOf_sg2 : (keyOf sf tf geq tg2 s256 sg2).getLsbD 8 = sg2 := by
  rw [keyOf_getLsbD]
  cases sg2 <;> rfl

theorem keyOf_s256 : (keyOf sf tf geq tg2 s256 sg2).getLsbD 9 = s256 := by
  rw [keyOf_getLsbD]
  cases s256 <;> rfl

theorem keyOf_tg2 : (keyOf sf tf geq tg2 s256 sg2).getLsbD 10 = tg2 := by
  rw [keyOf_getLsbD]
  cases tg2 <;> rfl

theorem keyOf_geq : (keyOf sf tf geq tg2 s256 sg2).getLsbD 11 = geq := by
  rw [keyOf_getLsbD]
  cases geq <;> rfl

@[simp] theorem keyOf_reserved : (keyOf sf tf geq tg2 s256 sg2).extractLsb' 12 4 = 0 :=
  BitVec.eq_of_getLsbD_eq fun i hi => by
    rw [BitVec.getLsbD_extractLsb', keyOf_getLsbD]
    interval_cases i <;> rfl

/-- A key made from fields is read back as those fields. -/
theorem decodeKey_keyOf :
    decodeKey (keyOf sf tf geq tg2 s256 sg2) = .ok (dispatchRow sf tf geq tg2 s256 sg2) := by
  simp only [decodeKey, keyOf_reserved, keyOf_sf, keyOf_tf, keyOf_sg2, keyOf_s256, keyOf_tg2, keyOf_geq, if_true,
    Format.ofCode_code]

end

end Sys2Proof

namespace Sys2Proof.Machine

/-- The key of a command selects the row of its formats and counts. -/
theorem State.decodeKey_formKey (s : State) :
    decodeKey s.formKey =
      .ok (dispatchRow s.srcFormat s.tgtFormat (s.srcGrays == s.tgtGrays) (validCount s.tgtGrays)
        (s.srcGrays == 256#9) (validCount s.srcGrays)) := decodeKey_keyOf ..

theorem Ctx.shownKey_of_ctxKeyWord (c : Ctx) (k : Key) (h : c.key = ctxKeyWord k) : c.shownKey = k := by
  refine BitVec.eq_of_getLsbD_eq fun i hi => ?_
  rw [Ctx.shownKey, h, BitVec.getLsbD_extractLsb']
  have e : (ctxKeyWord k).getLsbD (0 + i) = (1#1 ++ (0#15 ++ k)).getLsbD (0 + i) := rfl
  rw [e, BitVec.getLsbD_append, BitVec.getLsbD_append]
  simp only [Nat.zero_add, hi, if_true, show i < 15 + 16 by omega, decide_true, Bool.true_and]

/-- `CTX_KEY` of a key, as a number: `KEY_VALID` is bit 31. -/
theorem ctxKeyWord_toNat (k : Key) : (ctxKeyWord k).toNat = 2 ^ 31 + k.toNat := by
  have e : (ctxKeyWord k).toNat = (1#1 ++ (0#15 ++ k)).toNat := rfl
  have h := Nat.two_pow_add_eq_or_of_lt (show k.toNat < 2 ^ 31 by omega) 1
  rw [e, BitVec.toNat_append, BitVec.toNat_append]
  simpa using h.symm

end Sys2Proof.Machine
end

