-- ==== Sys2Proof/Laws/PerInstr.lean ====
section
/-! SUPPORT. Each instruction's word selects the row of the dispatch table that has the instruction's mnemonic (spec
30_encoding.md R104), for every value of the bits the row does not fix; `START` has bit 0 set (10_state.md R22). -/

namespace Sys2Proof.Laws.InItsRow

/-- The word of an instruction lies in the instruction's row of the table. -/
def Statement (i : Instr) : Prop :=
  match encode i with
  | .key k => ∃ r ∈ dispatchTable, r.mnemonic = i.mnemonic ∧ r.selects k = true
  | .ctrl w => i.mnemonic = "START" ∧ w.getLsbD 0 = true

theorem m2m (geq tg2 s256 sg2 : Bool) : Statement (.m2m geq tg2 s256 sg2) :=
  ⟨⟨"M2M", 0xF0FF, 0x0011⟩, List.mem_of_getElem? (i := 0) rfl, rfl, by
    cases geq <;> cases tg2 <;> cases s256 <;> cases sg2 <;> rfl⟩

theorem m2p4 (geq tg2 s256 sg2 : Bool) : Statement (.m2p4 geq tg2 s256 sg2) :=
  ⟨⟨"M2P4", 0xF0FF, 0x0021⟩, List.mem_of_getElem? (i := 1) rfl, rfl, by
    cases geq <;> cases tg2 <;> cases s256 <;> cases sg2 <;> rfl⟩

theorem m2p8 (geq tg2 s256 sg2 : Bool) : Statement (.m2p8 geq tg2 s256 sg2) :=
  ⟨⟨"M2P8", 0xF0FF, 0x0031⟩, List.mem_of_getElem? (i := 2) rfl, rfl, by
    cases geq <;> cases tg2 <;> cases s256 <;> cases sg2 <;> rfl⟩

theorem m2g8 (geq tg2 s256 sg2 : Bool) : Statement (.m2g8 geq tg2 s256 sg2) :=
  ⟨⟨"M2G8", 0xF0FF, 0x0041⟩, List.mem_of_getElem? (i := 3) rfl, rfl, by
    cases geq <;> cases tg2 <;> cases s256 <;> cases sg2 <;> rfl⟩

theorem m2r555 (geq tg2 s256 sg2 : Bool) : Statement (.m2r555 geq tg2 s256 sg2) :=
  ⟨⟨"M2R555", 0xF0FF, 0x0091⟩, List.mem_of_getElem? (i := 4) rfl, rfl, by
    cases geq <;> cases tg2 <;> cases s256 <;> cases sg2 <;> rfl⟩

theorem m2r565 (geq tg2 s256 sg2 : Bool) : Statement (.m2r565 geq tg2 s256 sg2) :=
  ⟨⟨"M2R565", 0xF0FF, 0x00A1⟩, List.mem_of_getElem? (i := 5) rfl, rfl, by
    cases geq <;> cases tg2 <;> cases s256 <;> cases sg2 <;> rfl⟩

theorem m2r24 (geq tg2 s256 sg2 : Bool) : Statement (.m2r24 geq tg2 s256 sg2) :=
  ⟨⟨"M2R24", 0xF0FF, 0x00B1⟩, List.mem_of_getElem? (i := 6) rfl, rfl, by
    cases geq <;> cases tg2 <;> cases s256 <;> cases sg2 <;> rfl⟩

theorem m2r32 (geq tg2 s256 sg2 : Bool) : Statement (.m2r32 geq tg2 s256 sg2) :=
  ⟨⟨"M2R32", 0xF0FF, 0x00C1⟩, List.mem_of_getElem? (i := 7) rfl, rfl, by
    cases geq <;> cases tg2 <;> cases s256 <;> cases sg2 <;> rfl⟩

theorem g2r555 (geq tg2 : Bool) : Statement (.g2r555 geq tg2) :=
  ⟨⟨"G2R555", 0xF3FF, 0x0194⟩, List.mem_of_getElem? (i := 8) rfl, rfl, by
    cases geq <;> cases tg2 <;> rfl⟩

theorem g2r565 (geq tg2 : Bool) : Statement (.g2r565 geq tg2) :=
  ⟨⟨"G2R565", 0xF3FF, 0x01A4⟩, List.mem_of_getElem? (i := 9) rfl, rfl, by
    cases geq <;> cases tg2 <;> rfl⟩

theorem g2r24 (geq tg2 : Bool) : Statement (.g2r24 geq tg2) :=
  ⟨⟨"G2R24", 0xF3FF, 0x01B4⟩, List.mem_of_getElem? (i := 10) rfl, rfl, by
    cases geq <;> cases tg2 <;> rfl⟩

theorem g2r32 (geq tg2 : Bool) : Statement (.g2r32 geq tg2) :=
  ⟨⟨"G2R32", 0xF3FF, 0x01C4⟩, List.mem_of_getElem? (i := 11) rfl, rfl, by
    cases geq <;> cases tg2 <;> rfl⟩

theorem g8r555 (geq tg2 : Bool) : Statement (.g8r555 geq tg2) :=
  ⟨⟨"G8R555", 0xF3FF, 0x0394⟩, List.mem_of_getElem? (i := 12) rfl, rfl, by
    cases geq <;> cases tg2 <;> rfl⟩

theorem g8r565 (geq tg2 : Bool) : Statement (.g8r565 geq tg2) :=
  ⟨⟨"G8R565", 0xF3FF, 0x03A4⟩, List.mem_of_getElem? (i := 13) rfl, rfl, by
    cases geq <;> cases tg2 <;> rfl⟩

theorem g8r24 (geq tg2 : Bool) : Statement (.g8r24 geq tg2) :=
  ⟨⟨"G8R24", 0xF3FF, 0x03B4⟩, List.mem_of_getElem? (i := 14) rfl, rfl, by
    cases geq <;> cases tg2 <;> rfl⟩

theorem g8r32 (geq tg2 : Bool) : Statement (.g8r32 geq tg2) :=
  ⟨⟨"G8R32", 0xF3FF, 0x03C4⟩, List.mem_of_getElem? (i := 15) rfl, rfl, by
    cases geq <;> cases tg2 <;> rfl⟩

theorem g2gSame (s256 : Bool) : Statement (.g2gSame s256) :=
  ⟨⟨"G2G_SAME", 0xFDFF, 0x0D44⟩, List.mem_of_getElem? (i := 16) rfl, rfl, by
    cases s256 <;> rfl⟩

theorem g2gConv (s256 : Bool) : Statement (.g2gConv s256) :=
  ⟨⟨"G2G_CONV", 0xFDFF, 0x0544⟩, List.mem_of_getElem? (i := 17) rfl, rfl, by
    cases s256 <;> rfl⟩

theorem lcdh (geq tg2 : Bool) : Statement (.lcdh geq tg2) :=
  ⟨⟨"LCDH", 0xF3FF, 0x01B5⟩, List.mem_of_getElem? (i := 18) rfl, rfl, by
    cases geq <;> cases tg2 <;> rfl⟩

theorem lcdh8 (geq tg2 : Bool) : Statement (.lcdh8 geq tg2) :=
  ⟨⟨"LCDH8", 0xF3FF, 0x03B5⟩, List.mem_of_getElem? (i := 19) rfl, rfl, by
    cases geq <;> cases tg2 <;> rfl⟩

theorem lcdhr (geq tg2 : Bool) : Statement (.lcdhr geq tg2) :=
  ⟨⟨"LCDHR", 0xF3FF, 0x01B6⟩, List.mem_of_getElem? (i := 20) rfl, rfl, by
    cases geq <;> cases tg2 <;> rfl⟩

theorem lcdhr8 (geq tg2 : Bool) : Statement (.lcdhr8 geq tg2) :=
  ⟨⟨"LCDHR8", 0xF3FF, 0x03B6⟩, List.mem_of_getElem? (i := 21) rfl, rfl, by
    cases geq <;> cases tg2 <;> rfl⟩

theorem lcdv (geq tg2 s256 : Bool) : Statement (.lcdv geq tg2 s256) :=
  ⟨⟨"LCDV", 0xF1FF, 0x01B7⟩, List.mem_of_getElem? (i := 22) rfl, rfl, by
    cases geq <;> cases tg2 <;> cases s256 <;> rfl⟩

theorem lcdvr (geq tg2 s256 : Bool) : Statement (.lcdvr geq tg2 s256) :=
  ⟨⟨"LCDVR", 0xF1FF, 0x01B8⟩, List.mem_of_getElem? (i := 23) rfl, rfl, by
    cases geq <;> cases tg2 <;> cases s256 <;> rfl⟩

theorem errTgtMonoNone (geq tg2 s256 sg2 : Bool) : Statement (.errTgtMonoNone geq tg2 s256 sg2) :=
  ⟨⟨"ERR_TGT.MONO.NONE", 0xF0FF, 0x0001⟩, List.mem_of_getElem? (i := 24) rfl, rfl, by
    cases geq <;> cases tg2 <;> cases s256 <;> cases sg2 <;> rfl⟩

theorem errTgtMonoLcdH (geq tg2 s256 sg2 : Bool) : Statement (.errTgtMonoLcdH geq tg2 s256 sg2) :=
  ⟨⟨"ERR_TGT.MONO.LCD_H", 0xF0FF, 0x0051⟩, List.mem_of_getElem? (i := 25) rfl, rfl, by
    cases geq <;> cases tg2 <;> cases s256 <;> cases sg2 <;> rfl⟩

theorem errTgtMonoLcdHR (geq tg2 s256 sg2 : Bool) : Statement (.errTgtMonoLcdHR geq tg2 s256 sg2) :=
  ⟨⟨"ERR_TGT.MONO.LCD_HR", 0xF0FF, 0x0061⟩, List.mem_of_getElem? (i := 26) rfl, rfl, by
    cases geq <;> cases tg2 <;> cases s256 <;> cases sg2 <;> rfl⟩

theorem errTgtMonoLcdV (geq tg2 s256 sg2 : Bool) : Statement (.errTgtMonoLcdV geq tg2 s256 sg2) :=
  ⟨⟨"ERR_TGT.MONO.LCD_V", 0xF0FF, 0x0071⟩, List.mem_of_getElem? (i := 27) rfl, rfl, by
    cases geq <;> cases tg2 <;> cases s256 <;> cases sg2 <;> rfl⟩

theorem errTgtMonoLcdVR (geq tg2 s256 sg2 : Bool) : Statement (.errTgtMonoLcdVR geq tg2 s256 sg2) :=
  ⟨⟨"ERR_TGT.MONO.LCD_VR", 0xF0FF, 0x0081⟩, List.mem_of_getElem? (i := 28) rfl, rfl, by
    cases geq <;> cases tg2 <;> cases s256 <;> cases sg2 <;> rfl⟩

theorem errTgtMonoRsv13 (geq tg2 s256 sg2 : Bool) : Statement (.errTgtMonoRsv13 geq tg2 s256 sg2) :=
  ⟨⟨"ERR_TGT.MONO.RSV13", 0xF0FF, 0x00D1⟩, List.mem_of_getElem? (i := 29) rfl, rfl, by
    cases geq <;> cases tg2 <;> cases s256 <;> cases sg2 <;> rfl⟩

theorem errTgtMonoRsv14 (geq tg2 s256 sg2 : Bool) : Statement (.errTgtMonoRsv14 geq tg2 s256 sg2) :=
  ⟨⟨"ERR_TGT.MONO.RSV14", 0xF0FF, 0x00E1⟩, List.mem_of_getElem? (i := 30) rfl, rfl, by
    cases geq <;> cases tg2 <;> cases s256 <;> cases sg2 <;> rfl⟩

theorem errTgtMonoRsv15 (geq tg2 s256 sg2 : Bool) : Statement (.errTgtMonoRsv15 geq tg2 s256 sg2) :=
  ⟨⟨"ERR_TGT.MONO.RSV15", 0xF0FF, 0x00F1⟩, List.mem_of_getElem? (i := 31) rfl, rfl, by
    cases geq <;> cases tg2 <;> cases s256 <;> cases sg2 <;> rfl⟩

theorem errTgtGrayNone (geq tg2 s256 : Bool) : Statement (.errTgtGrayNone geq tg2 s256) :=
  ⟨⟨"ERR_TGT.GRAY.NONE", 0xF1FF, 0x0104⟩, List.mem_of_getElem? (i := 32) rfl, rfl, by
    cases geq <;> cases tg2 <;> cases s256 <;> rfl⟩

theorem errTgtGrayMono (geq tg2 s256 : Bool) : Statement (.errTgtGrayMono geq tg2 s256) :=
  ⟨⟨"ERR_TGT.GRAY.MONO", 0xF1FF, 0x0114⟩, List.mem_of_getElem? (i := 33) rfl, rfl, by
    cases geq <;> cases tg2 <;> cases s256 <;> rfl⟩

theorem errTgtGrayPal4 (geq tg2 s256 : Bool) : Statement (.errTgtGrayPal4 geq tg2 s256) :=
  ⟨⟨"ERR_TGT.GRAY.PAL4", 0xF1FF, 0x0124⟩, List.mem_of_getElem? (i := 34) rfl, rfl, by
    cases geq <;> cases tg2 <;> cases s256 <;> rfl⟩

theorem errTgtGrayPal8 (geq tg2 s256 : Bool) : Statement (.errTgtGrayPal8 geq tg2 s256) :=
  ⟨⟨"ERR_TGT.GRAY.PAL8", 0xF1FF, 0x0134⟩, List.mem_of_getElem? (i := 35) rfl, rfl, by
    cases geq <;> cases tg2 <;> cases s256 <;> rfl⟩

theorem errTgtGrayLcdH (geq tg2 s256 : Bool) : Statement (.errTgtGrayLcdH geq tg2 s256) :=
  ⟨⟨"ERR_TGT.GRAY.LCD_H", 0xF1FF, 0x0154⟩, List.mem_of_getElem? (i := 36) rfl, rfl, by
    cases geq <;> cases tg2 <;> cases s256 <;> rfl⟩

theorem errTgtGrayLcdHR (geq tg2 s256 : Bool) : Statement (.errTgtGrayLcdHR geq tg2 s256) :=
  ⟨⟨"ERR_TGT.GRAY.LCD_HR", 0xF1FF, 0x0164⟩, List.mem_of_getElem? (i := 37) rfl, rfl, by
    cases geq <;> cases tg2 <;> cases s256 <;> rfl⟩

theorem errTgtGrayLcdV (geq tg2 s256 : Bool) : Statement (.errTgtGrayLcdV geq tg2 s256) :=
  ⟨⟨"ERR_TGT.GRAY.LCD_V", 0xF1FF, 0x0174⟩, List.mem_of_getElem? (i := 38) rfl, rfl, by
    cases geq <;> cases tg2 <;> cases s256 <;> rfl⟩

theorem errTgtGrayLcdVR (geq tg2 s256 : Bool) : Statement (.errTgtGrayLcdVR geq tg2 s256) :=
  ⟨⟨"ERR_TGT.GRAY.LCD_VR", 0xF1FF, 0x0184⟩, List.mem_of_getElem? (i := 39) rfl, rfl, by
    cases geq <;> cases tg2 <;> cases s256 <;> rfl⟩

theorem errTgtGrayRsv13 (geq tg2 s256 : Bool) : Statement (.errTgtGrayRsv13 geq tg2 s256) :=
  ⟨⟨"ERR_TGT.GRAY.RSV13", 0xF1FF, 0x01D4⟩, List.mem_of_getElem? (i := 40) rfl, rfl, by
    cases geq <;> cases tg2 <;> cases s256 <;> rfl⟩

theorem errTgtGrayRsv14 (geq tg2 s256 : Bool) : Statement (.errTgtGrayRsv14 geq tg2 s256) :=
  ⟨⟨"ERR_TGT.GRAY.RSV14", 0xF1FF, 0x01E4⟩, List.mem_of_getElem? (i := 41) rfl, rfl, by
    cases geq <;> cases tg2 <;> cases s256 <;> rfl⟩

theorem errTgtGrayRsv15 (geq tg2 s256 : Bool) : Statement (.errTgtGrayRsv15 geq tg2 s256) :=
  ⟨⟨"ERR_TGT.GRAY.RSV15", 0xF1FF, 0x01F4⟩, List.mem_of_getElem? (i := 42) rfl, rfl, by
    cases geq <;> cases tg2 <;> cases s256 <;> rfl⟩

theorem errTgtGrayBadcount (geq s256 : Bool) : Statement (.errTgtGrayBadcount geq s256) :=
  ⟨⟨"ERR_TGT.GRAY_BADCOUNT", 0xF5FF, 0x0144⟩, List.mem_of_getElem? (i := 43) rfl, rfl, by
    cases geq <;> cases s256 <;> rfl⟩

theorem errArgGrayAny (geq tg2 s256 : Bool) (tf : Format) : Statement (.errArgGrayAny geq tg2 s256 tf) :=
  ⟨⟨"ERR_ARG.GRAY.ANY", 0xF10F, 0x0004⟩, List.mem_of_getElem? (i := 44) rfl, rfl, by
    cases tf <;> cases geq <;> cases tg2 <;> cases s256 <;> rfl⟩

theorem errArgLcdHRgb24 (geq tg2 s256 : Bool) : Statement (.errArgLcdHRgb24 geq tg2 s256) :=
  ⟨⟨"ERR_ARG.LCD_H.RGB24", 0xF1FF, 0x00B5⟩, List.mem_of_getElem? (i := 45) rfl, rfl, by
    cases geq <;> cases tg2 <;> cases s256 <;> rfl⟩

theorem errArgLcdHRRgb24 (geq tg2 s256 : Bool) : Statement (.errArgLcdHRRgb24 geq tg2 s256) :=
  ⟨⟨"ERR_ARG.LCD_HR.RGB24", 0xF1FF, 0x00B6⟩, List.mem_of_getElem? (i := 46) rfl, rfl, by
    cases geq <;> cases tg2 <;> cases s256 <;> rfl⟩

theorem errArgLcdVRgb24 (geq tg2 s256 : Bool) : Statement (.errArgLcdVRgb24 geq tg2 s256) :=
  ⟨⟨"ERR_ARG.LCD_V.RGB24", 0xF1FF, 0x00B7⟩, List.mem_of_getElem? (i := 47) rfl, rfl, by
    cases geq <;> cases tg2 <;> cases s256 <;> rfl⟩

theorem errArgLcdVRRgb24 (geq tg2 s256 : Bool) : Statement (.errArgLcdVRRgb24 geq tg2 s256) :=
  ⟨⟨"ERR_ARG.LCD_VR.RGB24", 0xF1FF, 0x00B8⟩, List.mem_of_getElem? (i := 48) rfl, rfl, by
    cases geq <;> cases tg2 <;> cases s256 <;> rfl⟩

theorem noopLcdHNone (geq tg2 s256 sg2 : Bool) : Statement (.noopLcdHNone geq tg2 s256 sg2) :=
  ⟨⟨"NOOP_LCD.LCD_H.NONE", 0xF0FF, 0x0005⟩, List.mem_of_getElem? (i := 49) rfl, rfl, by
    cases geq <;> cases tg2 <;> cases s256 <;> cases sg2 <;> rfl⟩

theorem noopLcdHMono (geq tg2 s256 sg2 : Bool) : Statement (.noopLcdHMono geq tg2 s256 sg2) :=
  ⟨⟨"NOOP_LCD.LCD_H.MONO", 0xF0FF, 0x0015⟩, List.mem_of_getElem? (i := 50) rfl, rfl, by
    cases geq <;> cases tg2 <;> cases s256 <;> cases sg2 <;> rfl⟩

theorem noopLcdHPal4 (geq tg2 s256 sg2 : Bool) : Statement (.noopLcdHPal4 geq tg2 s256 sg2) :=
  ⟨⟨"NOOP_LCD.LCD_H.PAL4", 0xF0FF, 0x0025⟩, List.mem_of_getElem? (i := 51) rfl, rfl, by
    cases geq <;> cases tg2 <;> cases s256 <;> cases sg2 <;> rfl⟩

theorem noopLcdHPal8 (geq tg2 s256 sg2 : Bool) : Statement (.noopLcdHPal8 geq tg2 s256 sg2) :=
  ⟨⟨"NOOP_LCD.LCD_H.PAL8", 0xF0FF, 0x0035⟩, List.mem_of_getElem? (i := 52) rfl, rfl, by
    cases geq <;> cases tg2 <;> cases s256 <;> cases sg2 <;> rfl⟩

theorem noopLcdHGray (geq tg2 s256 sg2 : Bool) : Statement (.noopLcdHGray geq tg2 s256 sg2) :=
  ⟨⟨"NOOP_LCD.LCD_H.GRAY", 0xF0FF, 0x0045⟩, List.mem_of_getElem? (i := 53) rfl, rfl, by
    cases geq <;> cases tg2 <;> cases s256 <;> cases sg2 <;> rfl⟩

theorem noopLcdHLcdH (geq tg2 s256 sg2 : Bool) : Statement (.noopLcdHLcdH geq tg2 s256 sg2) :=
  ⟨⟨"NOOP_LCD.LCD_H.LCD_H", 0xF0FF, 0x0055⟩, List.mem_of_getElem? (i := 54) rfl, rfl, by
    cases geq <;> cases tg2 <;> cases s256 <;> cases sg2 <;> rfl⟩

theorem noopLcdHLcdHR (geq tg2 s256 sg2 : Bool) : Statement (.noopLcdHLcdHR geq tg2 s256 sg2) :=
  ⟨⟨"NOOP_LCD.LCD_H.LCD_HR", 0xF0FF, 0x0065⟩, List.mem_of_getElem? (i := 55) rfl, rfl, by
    cases geq <;> cases tg2 <;> cases s256 <;> cases sg2 <;> rfl⟩

theorem noopLcdHLcdV (geq tg2 s256 sg2 : Bool) : Statement (.noopLcdHLcdV geq tg2 s256 sg2) :=
  ⟨⟨"NOOP_LCD.LCD_H.LCD_V", 0xF0FF, 0x0075⟩, List.mem_of_getElem? (i := 56) rfl, rfl, by
    cases geq <;> cases tg2 <;> cases s256 <;> cases sg2 <;> rfl⟩

theorem noopLcdHLcdVR (geq tg2 s256 sg2 : Bool) : Statement (.noopLcdHLcdVR geq tg2 s256 sg2) :=
  ⟨⟨"NOOP_LCD.LCD_H.LCD_VR", 0xF0FF, 0x0085⟩, List.mem_of_getElem? (i := 57) rfl, rfl, by
    cases geq <;> cases tg2 <;> cases s256 <;> cases sg2 <;> rfl⟩

theorem noopLcdHRgb555 (geq tg2 s256 sg2 : Bool) : Statement (.noopLcdHRgb555 geq tg2 s256 sg2) :=
  ⟨⟨"NOOP_LCD.LCD_H.RGB555", 0xF0FF, 0x0095⟩, List.mem_of_getElem? (i := 58) rfl, rfl, by
    cases geq <;> cases tg2 <;> cases s256 <;> cases sg2 <;> rfl⟩

theorem noopLcdHRgb565 (geq tg2 s256 sg2 : Bool) : Statement (.noopLcdHRgb565 geq tg2 s256 sg2) :=
  ⟨⟨"NOOP_LCD.LCD_H.RGB565", 0xF0FF, 0x00A5⟩, List.mem_of_getElem? (i := 59) rfl, rfl, by
    cases geq <;> cases tg2 <;> cases s256 <;> cases sg2 <;> rfl⟩

theorem noopLcdHRgb32 (geq tg2 s256 sg2 : Bool) : Statement (.noopLcdHRgb32 geq tg2 s256 sg2) :=
  ⟨⟨"NOOP_LCD.LCD_H.RGB32", 0xF0FF, 0x00C5⟩, List.mem_of_getElem? (i := 60) rfl, rfl, by
    cases geq <;> cases tg2 <;> cases s256 <;> cases sg2 <;> rfl⟩

theorem noopLcdHRsv13 (geq tg2 s256 sg2 : Bool) : Statement (.noopLcdHRsv13 geq tg2 s256 sg2) :=
  ⟨⟨"NOOP_LCD.LCD_H.RSV13", 0xF0FF, 0x00D5⟩, List.mem_of_getElem? (i := 61) rfl, rfl, by
    cases geq <;> cases tg2 <;> cases s256 <;> cases sg2 <;> rfl⟩

theorem noopLcdHRsv14 (geq tg2 s256 sg2 : Bool) : Statement (.noopLcdHRsv14 geq tg2 s256 sg2) :=
  ⟨⟨"NOOP_LCD.LCD_H.RSV14", 0xF0FF, 0x00E5⟩, List.mem_of_getElem? (i := 62) rfl, rfl, by
    cases geq <;> cases tg2 <;> cases s256 <;> cases sg2 <;> rfl⟩

theorem noopLcdHRsv15 (geq tg2 s256 sg2 : Bool) : Statement (.noopLcdHRsv15 geq tg2 s256 sg2) :=
  ⟨⟨"NOOP_LCD.LCD_H.RSV15", 0xF0FF, 0x00F5⟩, List.mem_of_getElem? (i := 63) rfl, rfl, by
    cases geq <;> cases tg2 <;> cases s256 <;> cases sg2 <;> rfl⟩

theorem noopLcdHRNone (geq tg2 s256 sg2 : Bool) : Statement (.noopLcdHRNone geq tg2 s256 sg2) :=
  ⟨⟨"NOOP_LCD.LCD_HR.NONE", 0xF0FF, 0x0006⟩, List.mem_of_getElem? (i := 64) rfl, rfl, by
    cases geq <;> cases tg2 <;> cases s256 <;> cases sg2 <;> rfl⟩

theorem noopLcdHRMono (geq tg2 s256 sg2 : Bool) : Statement (.noopLcdHRMono geq tg2 s256 sg2) :=
  ⟨⟨"NOOP_LCD.LCD_HR.MONO", 0xF0FF, 0x0016⟩, List.mem_of_getElem? (i := 65) rfl, rfl, by
    cases geq <;> cases tg2 <;> cases s256 <;> cases sg2 <;> rfl⟩

theorem noopLcdHRPal4 (geq tg2 s256 sg2 : Bool) : Statement (.noopLcdHRPal4 geq tg2 s256 sg2) :=
  ⟨⟨"NOOP_LCD.LCD_HR.PAL4", 0xF0FF, 0x0026⟩, List.mem_of_getElem? (i := 66) rfl, rfl, by
    cases geq <;> cases tg2 <;> cases s256 <;> cases sg2 <;> rfl⟩

theorem noopLcdHRPal8 (geq tg2 s256 sg2 : Bool) : Statement (.noopLcdHRPal8 geq tg2 s256 sg2) :=
  ⟨⟨"NOOP_LCD.LCD_HR.PAL8", 0xF0FF, 0x0036⟩, List.mem_of_getElem? (i := 67) rfl, rfl, by
    cases geq <;> cases tg2 <;> cases s256 <;> cases sg2 <;> rfl⟩

theorem noopLcdHRGray (geq tg2 s256 sg2 : Bool) : Statement (.noopLcdHRGray geq tg2 s256 sg2) :=
  ⟨⟨"NOOP_LCD.LCD_HR.GRAY", 0xF0FF, 0x0046⟩, List.mem_of_getElem? (i := 68) rfl, rfl, by
    cases geq <;> cases tg2 <;> cases s256 <;> cases sg2 <;> rfl⟩

theorem noopLcdHRLcdH (geq tg2 s256 sg2 : Bool) : Statement (.noopLcdHRLcdH geq tg2 s256 sg2) :=
  ⟨⟨"NOOP_LCD.LCD_HR.LCD_H", 0xF0FF, 0x0056⟩, List.mem_of_getElem? (i := 69) rfl, rfl, by
    cases geq <;> cases tg2 <;> cases s256 <;> cases sg2 <;> rfl⟩

theorem noopLcdHRLcdHR (geq tg2 s256 sg2 : Bool) : Statement (.noopLcdHRLcdHR geq tg2 s256 sg2) :=
  ⟨⟨"NOOP_LCD.LCD_HR.LCD_HR", 0xF0FF, 0x0066⟩, List.mem_of_getElem? (i := 70) rfl, rfl, by
    cases geq <;> cases tg2 <;> cases s256 <;> cases sg2 <;> rfl⟩

theorem noopLcdHRLcdV (geq tg2 s256 sg2 : Bool) : Statement (.noopLcdHRLcdV geq tg2 s256 sg2) :=
  ⟨⟨"NOOP_LCD.LCD_HR.LCD_V", 0xF0FF, 0x0076⟩, List.mem_of_getElem? (i := 71) rfl, rfl, by
    cases geq <;> cases tg2 <;> cases s256 <;> cases sg2 <;> rfl⟩

theorem noopLcdHRLcdVR (geq tg2 s256 sg2 : Bool) : Statement (.noopLcdHRLcdVR geq tg2 s256 sg2) :=
  ⟨⟨"NOOP_LCD.LCD_HR.LCD_VR", 0xF0FF, 0x0086⟩, List.mem_of_getElem? (i := 72) rfl, rfl, by
    cases geq <;> cases tg2 <;> cases s256 <;> cases sg2 <;> rfl⟩

theorem noopLcdHRRgb555 (geq tg2 s256 sg2 : Bool) : Statement (.noopLcdHRRgb555 geq tg2 s256 sg2) :=
  ⟨⟨"NOOP_LCD.LCD_HR.RGB555", 0xF0FF, 0x0096⟩, List.mem_of_getElem? (i := 73) rfl, rfl, by
    cases geq <;> cases tg2 <;> cases s256 <;> cases sg2 <;> rfl⟩

theorem noopLcdHRRgb565 (geq tg2 s256 sg2 : Bool) : Statement (.noopLcdHRRgb565 geq tg2 s256 sg2) :=
  ⟨⟨"NOOP_LCD.LCD_HR.RGB565", 0xF0FF, 0x00A6⟩, List.mem_of_getElem? (i := 74) rfl, rfl, by
    cases geq <;> cases tg2 <;> cases s256 <;> cases sg2 <;> rfl⟩

theorem noopLcdHRRgb32 (geq tg2 s256 sg2 : Bool) : Statement (.noopLcdHRRgb32 geq tg2 s256 sg2) :=
  ⟨⟨"NOOP_LCD.LCD_HR.RGB32", 0xF0FF, 0x00C6⟩, List.mem_of_getElem? (i := 75) rfl, rfl, by
    cases geq <;> cases tg2 <;> cases s256 <;> cases sg2 <;> rfl⟩

theorem noopLcdHRRsv13 (geq tg2 s256 sg2 : Bool) : Statement (.noopLcdHRRsv13 geq tg2 s256 sg2) :=
  ⟨⟨"NOOP_LCD.LCD_HR.RSV13", 0xF0FF, 0x00D6⟩, List.mem_of_getElem? (i := 76) rfl, rfl, by
    cases geq <;> cases tg2 <;> cases s256 <;> cases sg2 <;> rfl⟩

theorem noopLcdHRRsv14 (geq tg2 s256 sg2 : Bool) : Statement (.noopLcdHRRsv14 geq tg2 s256 sg2) :=
  ⟨⟨"NOOP_LCD.LCD_HR.RSV14", 0xF0FF, 0x00E6⟩, List.mem_of_getElem? (i := 77) rfl, rfl, by
    cases geq <;> cases tg2 <;> cases s256 <;> cases sg2 <;> rfl⟩

theorem noopLcdHRRsv15 (geq tg2 s256 sg2 : Bool) : Statement (.noopLcdHRRsv15 geq tg2 s256 sg2) :=
  ⟨⟨"NOOP_LCD.LCD_HR.RSV15", 0xF0FF, 0x00F6⟩, List.mem_of_getElem? (i := 78) rfl, rfl, by
    cases geq <;> cases tg2 <;> cases s256 <;> cases sg2 <;> rfl⟩

theorem noopLcdVNone (geq tg2 s256 sg2 : Bool) : Statement (.noopLcdVNone geq tg2 s256 sg2) :=
  ⟨⟨"NOOP_LCD.LCD_V.NONE", 0xF0FF, 0x0007⟩, List.mem_of_getElem? (i := 79) rfl, rfl, by
    cases geq <;> cases tg2 <;> cases s256 <;> cases sg2 <;> rfl⟩

theorem noopLcdVMono (geq tg2 s256 sg2 : Bool) : Statement (.noopLcdVMono geq tg2 s256 sg2) :=
  ⟨⟨"NOOP_LCD.LCD_V.MONO", 0xF0FF, 0x0017⟩, List.mem_of_getElem? (i := 80) rfl, rfl, by
    cases geq <;> cases tg2 <;> cases s256 <;> cases sg2 <;> rfl⟩

theorem noopLcdVPal4 (geq tg2 s256 sg2 : Bool) : Statement (.noopLcdVPal4 geq tg2 s256 sg2) :=
  ⟨⟨"NOOP_LCD.LCD_V.PAL4", 0xF0FF, 0x0027⟩, List.mem_of_getElem? (i := 81) rfl, rfl, by
    cases geq <;> cases tg2 <;> cases s256 <;> cases sg2 <;> rfl⟩

theorem noopLcdVPal8 (geq tg2 s256 sg2 : Bool) : Statement (.noopLcdVPal8 geq tg2 s256 sg2) :=
  ⟨⟨"NOOP_LCD.LCD_V.PAL8", 0xF0FF, 0x0037⟩, List.mem_of_getElem? (i := 82) rfl, rfl, by
    cases geq <;> cases tg2 <;> cases s256 <;> cases sg2 <;> rfl⟩

theorem noopLcdVGray (geq tg2 s256 sg2 : Bool) : Statement (.noopLcdVGray geq tg2 s256 sg2) :=
  ⟨⟨"NOOP_LCD.LCD_V.GRAY", 0xF0FF, 0x0047⟩, List.mem_of_getElem? (i := 83) rfl, rfl, by
    cases geq <;> cases tg2 <;> cases s256 <;> cases sg2 <;> rfl⟩

theorem noopLcdVLcdH (geq tg2 s256 sg2 : Bool) : Statement (.noopLcdVLcdH geq tg2 s256 sg2) :=
  ⟨⟨"NOOP_LCD.LCD_V.LCD_H", 0xF0FF, 0x0057⟩, List.mem_of_getElem? (i := 84) rfl, rfl, by
    cases geq <;> cases tg2 <;> cases s256 <;> cases sg2 <;> rfl⟩

theorem noopLcdVLcdHR (geq tg2 s256 sg2 : Bool) : Statement (.noopLcdVLcdHR geq tg2 s256 sg2) :=
  ⟨⟨"NOOP_LCD.LCD_V.LCD_HR", 0xF0FF, 0x0067⟩, List.mem_of_getElem? (i := 85) rfl, rfl, by
    cases geq <;> cases tg2 <;> cases s256 <;> cases sg2 <;> rfl⟩

theorem noopLcdVLcdV (geq tg2 s256 sg2 : Bool) : Statement (.noopLcdVLcdV geq tg2 s256 sg2) :=
  ⟨⟨"NOOP_LCD.LCD_V.LCD_V", 0xF0FF, 0x0077⟩, List.mem_of_getElem? (i := 86) rfl, rfl, by
    cases geq <;> cases tg2 <;> cases s256 <;> cases sg2 <;> rfl⟩

theorem noopLcdVLcdVR (geq tg2 s256 sg2 : Bool) : Statement (.noopLcdVLcdVR geq tg2 s256 sg2) :=
  ⟨⟨"NOOP_LCD.LCD_V.LCD_VR", 0xF0FF, 0x0087⟩, List.mem_of_getElem? (i := 87) rfl, rfl, by
    cases geq <;> cases tg2 <;> cases s256 <;> cases sg2 <;> rfl⟩

theorem noopLcdVRgb555 (geq tg2 s256 sg2 : Bool) : Statement (.noopLcdVRgb555 geq tg2 s256 sg2) :=
  ⟨⟨"NOOP_LCD.LCD_V.RGB555", 0xF0FF, 0x0097⟩, List.mem_of_getElem? (i := 88) rfl, rfl, by
    cases geq <;> cases tg2 <;> cases s256 <;> cases sg2 <;> rfl⟩

theorem noopLcdVRgb565 (geq tg2 s256 sg2 : Bool) : Statement (.noopLcdVRgb565 geq tg2 s256 sg2) :=
  ⟨⟨"NOOP_LCD.LCD_V.RGB565", 0xF0FF, 0x00A7⟩, List.mem_of_getElem? (i := 89) rfl, rfl, by
    cases geq <;> cases tg2 <;> cases s256 <;> cases sg2 <;> rfl⟩

theorem noopLcdVRgb32 (geq tg2 s256 sg2 : Bool) : Statement (.noopLcdVRgb32 geq tg2 s256 sg2) :=
  ⟨⟨"NOOP_LCD.LCD_V.RGB32", 0xF0FF, 0x00C7⟩, List.mem_of_getElem? (i := 90) rfl, rfl, by
    cases geq <;> cases tg2 <;> cases s256 <;> cases sg2 <;> rfl⟩

theorem noopLcdVRsv13 (geq tg2 s256 sg2 : Bool) : Statement (.noopLcdVRsv13 geq tg2 s256 sg2) :=
  ⟨⟨"NOOP_LCD.LCD_V.RSV13", 0xF0FF, 0x00D7⟩, List.mem_of_getElem? (i := 91) rfl, rfl, by
    cases geq <;> cases tg2 <;> cases s256 <;> cases sg2 <;> rfl⟩

theorem noopLcdVRsv14 (geq tg2 s256 sg2 : Bool) : Statement (.noopLcdVRsv14 geq tg2 s256 sg2) :=
  ⟨⟨"NOOP_LCD.LCD_V.RSV14", 0xF0FF, 0x00E7⟩, List.mem_of_getElem? (i := 92) rfl, rfl, by
    cases geq <;> cases tg2 <;> cases s256 <;> cases sg2 <;> rfl⟩

theorem noopLcdVRsv15 (geq tg2 s256 sg2 : Bool) : Statement (.noopLcdVRsv15 geq tg2 s256 sg2) :=
  ⟨⟨"NOOP_LCD.LCD_V.RSV15", 0xF0FF, 0x00F7⟩, List.mem_of_getElem? (i := 93) rfl, rfl, by
    cases geq <;> cases tg2 <;> cases s256 <;> cases sg2 <;> rfl⟩

theorem noopLcdVRNone (geq tg2 s256 sg2 : Bool) : Statement (.noopLcdVRNone geq tg2 s256 sg2) :=
  ⟨⟨"NOOP_LCD.LCD_VR.NONE", 0xF0FF, 0x0008⟩, List.mem_of_getElem? (i := 94) rfl, rfl, by
    cases geq <;> cases tg2 <;> cases s256 <;> cases sg2 <;> rfl⟩

theorem noopLcdVRMono (geq tg2 s256 sg2 : Bool) : Statement (.noopLcdVRMono geq tg2 s256 sg2) :=
  ⟨⟨"NOOP_LCD.LCD_VR.MONO", 0xF0FF, 0x0018⟩, List.mem_of_getElem? (i := 95) rfl, rfl, by
    cases geq <;> cases tg2 <;> cases s256 <;> cases sg2 <;> rfl⟩

theorem noopLcdVRPal4 (geq tg2 s256 sg2 : Bool) : Statement (.noopLcdVRPal4 geq tg2 s256 sg2) :=
  ⟨⟨"NOOP_LCD.LCD_VR.PAL4", 0xF0FF, 0x0028⟩, List.mem_of_getElem? (i := 96) rfl, rfl, by
    cases geq <;> cases tg2 <;> cases s256 <;> cases sg2 <;> rfl⟩

theorem noopLcdVRPal8 (geq tg2 s256 sg2 : Bool) : Statement (.noopLcdVRPal8 geq tg2 s256 sg2) :=
  ⟨⟨"NOOP_LCD.LCD_VR.PAL8", 0xF0FF, 0x0038⟩, List.mem_of_getElem? (i := 97) rfl, rfl, by
    cases geq <;> cases tg2 <;> cases s256 <;> cases sg2 <;> rfl⟩

theorem noopLcdVRGray (geq tg2 s256 sg2 : Bool) : Statement (.noopLcdVRGray geq tg2 s256 sg2) :=
  ⟨⟨"NOOP_LCD.LCD_VR.GRAY", 0xF0FF, 0x0048⟩, List.mem_of_getElem? (i := 98) rfl, rfl, by
    cases geq <;> cases tg2 <;> cases s256 <;> cases sg2 <;> rfl⟩

theorem noopLcdVRLcdH (geq tg2 s256 sg2 : Bool) : Statement (.noopLcdVRLcdH geq tg2 s256 sg2) :=
  ⟨⟨"NOOP_LCD.LCD_VR.LCD_H", 0xF0FF, 0x0058⟩, List.mem_of_getElem? (i := 99) rfl, rfl, by
    cases geq <;> cases tg2 <;> cases s256 <;> cases sg2 <;> rfl⟩

theorem noopLcdVRLcdHR (geq tg2 s256 sg2 : Bool) : Statement (.noopLcdVRLcdHR geq tg2 s256 sg2) :=
  ⟨⟨"NOOP_LCD.LCD_VR.LCD_HR", 0xF0FF, 0x0068⟩, List.mem_of_getElem? (i := 100) rfl, rfl, by
    cases geq <;> cases tg2 <;> cases s256 <;> cases sg2 <;> rfl⟩

theorem noopLcdVRLcdV (geq tg2 s256 sg2 : Bool) : Statement (.noopLcdVRLcdV geq tg2 s256 sg2) :=
  ⟨⟨"NOOP_LCD.LCD_VR.LCD_V", 0xF0FF, 0x0078⟩, List.mem_of_getElem? (i := 101) rfl, rfl, by
    cases geq <;> cases tg2 <;> cases s256 <;> cases sg2 <;> rfl⟩

theorem noopLcdVRLcdVR (geq tg2 s256 sg2 : Bool) : Statement (.noopLcdVRLcdVR geq tg2 s256 sg2) :=
  ⟨⟨"NOOP_LCD.LCD_VR.LCD_VR", 0xF0FF, 0x0088⟩, List.mem_of_getElem? (i := 102) rfl, rfl, by
    cases geq <;> cases tg2 <;> cases s256 <;> cases sg2 <;> rfl⟩

theorem noopLcdVRRgb555 (geq tg2 s256 sg2 : Bool) : Statement (.noopLcdVRRgb555 geq tg2 s256 sg2) :=
  ⟨⟨"NOOP_LCD.LCD_VR.RGB555", 0xF0FF, 0x0098⟩, List.mem_of_getElem? (i := 103) rfl, rfl, by
    cases geq <;> cases tg2 <;> cases s256 <;> cases sg2 <;> rfl⟩

theorem noopLcdVRRgb565 (geq tg2 s256 sg2 : Bool) : Statement (.noopLcdVRRgb565 geq tg2 s256 sg2) :=
  ⟨⟨"NOOP_LCD.LCD_VR.RGB565", 0xF0FF, 0x00A8⟩, List.mem_of_getElem? (i := 104) rfl, rfl, by
    cases geq <;> cases tg2 <;> cases s256 <;> cases sg2 <;> rfl⟩

theorem noopLcdVRRgb32 (geq tg2 s256 sg2 : Bool) : Statement (.noopLcdVRRgb32 geq tg2 s256 sg2) :=
  ⟨⟨"NOOP_LCD.LCD_VR.RGB32", 0xF0FF, 0x00C8⟩, List.mem_of_getElem? (i := 105) rfl, rfl, by
    cases geq <;> cases tg2 <;> cases s256 <;> cases sg2 <;> rfl⟩

theorem noopLcdVRRsv13 (geq tg2 s256 sg2 : Bool) : Statement (.noopLcdVRRsv13 geq tg2 s256 sg2) :=
  ⟨⟨"NOOP_LCD.LCD_VR.RSV13", 0xF0FF, 0x00D8⟩, List.mem_of_getElem? (i := 106) rfl, rfl, by
    cases geq <;> cases tg2 <;> cases s256 <;> cases sg2 <;> rfl⟩

theorem noopLcdVRRsv14 (geq tg2 s256 sg2 : Bool) : Statement (.noopLcdVRRsv14 geq tg2 s256 sg2) :=
  ⟨⟨"NOOP_LCD.LCD_VR.RSV14", 0xF0FF, 0x00E8⟩, List.mem_of_getElem? (i := 107) rfl, rfl, by
    cases geq <;> cases tg2 <;> cases s256 <;> cases sg2 <;> rfl⟩

theorem noopLcdVRRsv15 (geq tg2 s256 sg2 : Bool) : Statement (.noopLcdVRRsv15 geq tg2 s256 sg2) :=
  ⟨⟨"NOOP_LCD.LCD_VR.RSV15", 0xF0FF, 0x00F8⟩, List.mem_of_getElem? (i := 108) rfl, rfl, by
    cases geq <;> cases tg2 <;> cases s256 <;> cases sg2 <;> rfl⟩

theorem errSrcNoneAny (geq tg2 s256 sg2 : Bool) (tf : Format) : Statement (.errSrcNoneAny geq tg2 s256 sg2 tf) :=
  ⟨⟨"ERR_SRC.NONE.ANY", 0xF00F, 0x0000⟩, List.mem_of_getElem? (i := 109) rfl, rfl, by
    cases tf <;> cases geq <;> cases tg2 <;> cases s256 <;> cases sg2 <;> rfl⟩

theorem errSrcPal4Any (geq tg2 s256 sg2 : Bool) (tf : Format) : Statement (.errSrcPal4Any geq tg2 s256 sg2 tf) :=
  ⟨⟨"ERR_SRC.PAL4.ANY", 0xF00F, 0x0002⟩, List.mem_of_getElem? (i := 110) rfl, rfl, by
    cases tf <;> cases geq <;> cases tg2 <;> cases s256 <;> cases sg2 <;> rfl⟩

theorem errSrcPal8Any (geq tg2 s256 sg2 : Bool) (tf : Format) : Statement (.errSrcPal8Any geq tg2 s256 sg2 tf) :=
  ⟨⟨"ERR_SRC.PAL8.ANY", 0xF00F, 0x0003⟩, List.mem_of_getElem? (i := 111) rfl, rfl, by
    cases tf <;> cases geq <;> cases tg2 <;> cases s256 <;> cases sg2 <;> rfl⟩

theorem errSrcRgb555Any (geq tg2 s256 sg2 : Bool) (tf : Format) : Statement (.errSrcRgb555Any geq tg2 s256 sg2 tf) :=
  ⟨⟨"ERR_SRC.RGB555.ANY", 0xF00F, 0x0009⟩, List.mem_of_getElem? (i := 112) rfl, rfl, by
    cases tf <;> cases geq <;> cases tg2 <;> cases s256 <;> cases sg2 <;> rfl⟩

theorem errSrcRgb565Any (geq tg2 s256 sg2 : Bool) (tf : Format) : Statement (.errSrcRgb565Any geq tg2 s256 sg2 tf) :=
  ⟨⟨"ERR_SRC.RGB565.ANY", 0xF00F, 0x000A⟩, List.mem_of_getElem? (i := 113) rfl, rfl, by
    cases tf <;> cases geq <;> cases tg2 <;> cases s256 <;> cases sg2 <;> rfl⟩

theorem errSrcRgb24Any (geq tg2 s256 sg2 : Bool) (tf : Format) : Statement (.errSrcRgb24Any geq tg2 s256 sg2 tf) :=
  ⟨⟨"ERR_SRC.RGB24.ANY", 0xF00F, 0x000B⟩, List.mem_of_getElem? (i := 114) rfl, rfl, by
    cases tf <;> cases geq <;> cases tg2 <;> cases s256 <;> cases sg2 <;> rfl⟩

theorem errSrcRgb32Any (geq tg2 s256 sg2 : Bool) (tf : Format) : Statement (.errSrcRgb32Any geq tg2 s256 sg2 tf) :=
  ⟨⟨"ERR_SRC.RGB32.ANY", 0xF00F, 0x000C⟩, List.mem_of_getElem? (i := 115) rfl, rfl, by
    cases tf <;> cases geq <;> cases tg2 <;> cases s256 <;> cases sg2 <;> rfl⟩

theorem errSrcRsv13Any (geq tg2 s256 sg2 : Bool) (tf : Format) : Statement (.errSrcRsv13Any geq tg2 s256 sg2 tf) :=
  ⟨⟨"ERR_SRC.RSV13.ANY", 0xF00F, 0x000D⟩, List.mem_of_getElem? (i := 116) rfl, rfl, by
    cases tf <;> cases geq <;> cases tg2 <;> cases s256 <;> cases sg2 <;> rfl⟩

theorem errSrcRsv14Any (geq tg2 s256 sg2 : Bool) (tf : Format) : Statement (.errSrcRsv14Any geq tg2 s256 sg2 tf) :=
  ⟨⟨"ERR_SRC.RSV14.ANY", 0xF00F, 0x000E⟩, List.mem_of_getElem? (i := 117) rfl, rfl, by
    cases tf <;> cases geq <;> cases tg2 <;> cases s256 <;> cases sg2 <;> rfl⟩

theorem errSrcRsv15Any (geq tg2 s256 sg2 : Bool) (tf : Format) : Statement (.errSrcRsv15Any geq tg2 s256 sg2 tf) :=
  ⟨⟨"ERR_SRC.RSV15.ANY", 0xF00F, 0x000F⟩, List.mem_of_getElem? (i := 118) rfl, rfl, by
    cases tf <;> cases geq <;> cases tg2 <;> cases s256 <;> cases sg2 <;> rfl⟩

theorem start (rsv : BitVec 31) : Statement (.start rsv) := by
  refine ⟨rfl, ?_⟩
  have e : (rsv ++ 1#1 : BitVec 32).getLsbD 0 = (rsv ++ 1#1).getLsbD 0 := rfl
  rw [e, BitVec.getLsbD_append]
  rfl

end Sys2Proof.Laws.InItsRow
end

