-- ==== Sys2Proof/Laws/Ready.lean ====
section
/-! SUPPORT. What a kernel row does to a command that is ready: it completes, and paints from the memory it began
with. -/

namespace Sys2Proof.Machine

theorem State.Ready.nonneg_src {s : State} {sf tf : Format} (h : s.Ready sf tf) : ∀ a ∈ s.srcSpan sf, 0 ≤ a :=
  fun a ha => admits_nonneg (h.admitted a (List.mem_append_left _ ha))

theorem State.Ready.nonneg_tgt {s : State} {sf tf : Format} (h : s.Ready sf tf) : ∀ a ∈ s.tgtSpan tf, 0 ≤ a :=
  fun a ha => admits_nonneg (h.admitted a (List.mem_append_right _ ha))

/-- A kernel row whose lookups succeed and whose command is ready runs its pixel loop and completes. -/
theorem exec_of_ready {i : Instr} {k : Kernel} {s s1 : State} (hk : kernelOf i = some k) (hl : k.lookups s = .ok s1)
    (h : s.Ready k.sf k.tf) :
    exec i s = .next { s.completed k.id with
      mem := (k.paint s1 s1.canvas).mem, draws := (k.paint s1 s1.canvas).draws, sat := s1.sat, conv := s1.conv } := by
  have e := Kernel.lookups_changes_caches_only k s s1 (.inl hl)
  have hsrc : s1.srcSpan k.sf = s.srcSpan k.sf := by rw [e]; rfl
  have htgt : s1.tgtSpan k.tf = s.tgtSpan k.tf := by rw [e]; rfl
  have hpar : s1.params = s.params := by rw [e]
  have hdis : s1.disturbed = false := by rw [e]; exact h.undisturbed.quiet
  have ha : ∀ a ∈ k.accessSet s1, admits s1.params a = true := by
    intro a ha
    rw [hpar]
    rw [Kernel.accessSet, hsrc, htgt] at ha
    exact h.admitted a ha
  have hc : k.composite s1 = k.paint s1 s1.canvas :=
    Kernel.composite_of_undisturbed k s1 hdis (by rw [hsrc, htgt]; exact h.undisturbed.apart)
  have hs : ∀ c, (s1.withCanvas c).finishOk false k.id =
      { s.completed k.id with mem := c.mem, draws := c.draws, sat := s1.sat, conv := s1.conv } := by
    intro c
    conv_lhs => rw [e]
    rfl
  rw [exec_of_kernelOf hk, runKernel_of_admitted hl ha, hc, hs]

/-- A kernel's pixel loop leaves every byte outside its target span alone. -/
theorem Kernel.read_paint_other (k : Kernel) (s : State) (c : Canvas) (n : Nat) (h0 : ∀ a ∈ s.tgtSpan k.tf, 0 ≤ a)
    (h : (n : Int) ∉ s.tgtSpan k.tf) : Memory.read (k.paint s c).mem n = Memory.read c.mem n :=
  Kernel.paint_induction (P := fun d => Memory.read d.mem n = Memory.read c.mem n) k s c rfl fun d p hp hd => by
    rw [Kernel.read_paintPixel_other k s d p n (fun a ha => h0 a (State.mem_tgtSpan hp ha))
      fun ha => h (State.mem_tgtSpan hp ha), hd]

/-- A pixel loop whose law asks for no free value draws none. -/
theorem Kernel.draws_paint (k : Kernel) (s : State) (c : Canvas) (h : ∀ d, ∀ p ∈ s.visible, k.act s d p ≠ .any) :
    (k.paint s c).draws = c.draws :=
  Kernel.paint_induction (P := fun d => d.draws = c.draws) k s c rfl fun d p hp hd => by
    have := h d p hp
    simp only [Kernel.paintPixel]
    split
    · exact hd
    · rw [Canvas.draws_putAll, hd]
    · next e => exact absurd e this

/-- The bytes a pixel law reads. -/
theorem Canvas.pixel_of_getElem? (c : Canvas) (l : List Int) (j : Nat) (a : Int) (h : l[j]? = some a) :
    c.pixel l j = c.byte a := by simp only [Canvas.pixel, h]

/-- A state with the canvas of a scramble has freed its bytes. -/
theorem State.freed_of_scrambleAll {s t : State} {l : List Int} (hm : t.mem = (s.canvas.scrambleAll l).mem)
    (hd : t.draws = (s.canvas.scrambleAll l).draws) : s.Freed t l where
  memory := hm
  draws := hd.trans (Canvas.draws_scrambleAll l s.canvas)
  free hwf a ha := by
    obtain ⟨n, h1, h2, h3⟩ := Canvas.byte_scrambleAll_mem l s.canvas hwf a ha
    exact ⟨n, h1, hd ▸ h2, by rw [← h3, State.byteAt, hm]; rfl⟩

end Sys2Proof.Machine
end

