-- ==== Sys2Proof/Tests/Slice0.lean ====
section
/-! SUPPORT. Tests. Expected results are those of spec/95_test_vectors.md, named in each docstring, or words written out
from 30_encoding.md R101 and R104. The witnesses of the statements' hypotheses stand at the end: each is a state and
operands that meet them together, with a value at each boundary the clauses speak of. -/

namespace Sys2Proof.Tests

open Sys2Proof.Machine

/-! ### Which instructions are well formed -/

/-- `S256` without `SG2` (30_encoding.md R103). -/
theorem test_wf_refuses_256_levels_not_valid : (Instr.m2m false false true false).wellFormed = false := by decide

/-- `GEQ` with `SG2` and not `TG2`: equal counts are valid together (30_encoding.md R102). -/
theorem test_wf_refuses_equal_counts_not_both_valid :
    (Instr.g2r24 true false).wellFormed = false ∧ (Instr.errSrcNoneAny true true false false .none).wellFormed = false := by
  decide

/-- Formed keys: counts 256 and 256, 5 and 0, 0 and 0. -/
theorem test_wf_admits_formed_keys :
    (Instr.g2gSame true).wellFormed = true ∧ (Instr.g2r24 false false).wellFormed = true ∧
      (Instr.m2m true false false false).wellFormed = true := by decide

/-! ### Decoding: words written out from the encodings -/

/-- Keys decode to instructions, one by one. -/
abbrev keys (ws : List Key) (is : List Instr) : Prop := ws.map (fun w => (decodeKey w).toOption) = is.map some

theorem test_decode_mono : keys
    [0x0A11, 0x0521, 0x0F31, 0x0841, 0x0491, 0x09A1, 0x00B1, 0x0AC1]
    [.m2m true false true false, .m2p4 false true false true, .m2p8 true true true true,
      .m2g8 true false false false, .m2r555 false true false false, .m2r565 true false false true,
      .m2r24 false false false false, .m2r32 true false true false] := by
  decide

theorem test_decode_gray_general : keys
    [0x0594, 0x0DA4, 0x09B4, 0x05C4]
    [.g2r555 false true, .g2r565 true true, .g2r24 true false, .g2r32 false true] := by
  decide

theorem test_decode_gray_fast : keys
    [0x0B94, 0x03A4, 0x0BB4, 0x07C4]
    [.g8r555 true false, .g8r565 false false, .g8r24 true false, .g8r32 false true] := by
  decide

theorem test_decode_gray_into_gray : keys
    [0x0F44, 0x0544]
    [.g2gSame true, .g2gConv false] := by
  decide

theorem test_decode_lcd : keys
    [0x05B5, 0x0BB5, 0x01B6, 0x0BB6, 0x05B7, 0x0FB8]
    [.lcdh false true, .lcdh8 true false, .lcdhr false false, .lcdhr8 true false, .lcdv false true false,
      .lcdvr true true true] := by
  decide

theorem test_decode_err_tgt_mono : keys
    [0x0801, 0x0451, 0x0961, 0x0071, 0x0A81, 0x05D1, 0x0FE1, 0x08F1]
    [.errTgtMonoNone true false false false, .errTgtMonoLcdH false true false false,
      .errTgtMonoLcdHR true false false true, .errTgtMonoLcdV false false false false,
      .errTgtMonoLcdVR true false true false, .errTgtMonoRsv13 false true false true,
      .errTgtMonoRsv14 true true true true, .errTgtMonoRsv15 true false false false] := by
  decide

theorem test_decode_err_tgt_gray : keys
    [0x0504, 0x0914, 0x0124, 0x0B34, 0x0554, 0x0F64, 0x0974, 0x0584, 0x09D4, 0x01E4, 0x0BF4, 0x0144]
    [.errTgtGrayNone false true false, .errTgtGrayMono true false false, .errTgtGrayPal4 false false false,
      .errTgtGrayPal8 true false true, .errTgtGrayLcdH false true false, .errTgtGrayLcdHR true true true,
      .errTgtGrayLcdV true false false, .errTgtGrayLcdVR false true false, .errTgtGrayRsv13 true false false,
      .errTgtGrayRsv14 false false false, .errTgtGrayRsv15 true false true, .errTgtGrayBadcount false false] := by
  decide

theorem test_decode_err_arg : keys
    [0x0EF4, 0x08B5, 0x04B6, 0x08B7, 0x00B8]
    [.errArgGrayAny true true true .rsv15, .errArgLcdHRgb24 true false false, .errArgLcdHRRgb24 false true false,
      .errArgLcdVRgb24 true false false, .errArgLcdVRRgb24 false false false] := by
  decide

theorem test_decode_noop_lcd_h : keys
    [0x0A05, 0x0515, 0x0F25, 0x0835, 0x0445, 0x0955, 0x0065, 0x0A75, 0x0585, 0x0F95, 0x08A5, 0x04C5, 0x09D5,
      0x00E5, 0x0AF5]
    [.noopLcdHNone true false true false, .noopLcdHMono false true false true, .noopLcdHPal4 true true true true,
      .noopLcdHPal8 true false false false, .noopLcdHGray false true false false,
      .noopLcdHLcdH true false false true, .noopLcdHLcdHR false false false false,
      .noopLcdHLcdV true false true false, .noopLcdHLcdVR false true false true,
      .noopLcdHRgb555 true true true true, .noopLcdHRgb565 true false false false,
      .noopLcdHRgb32 false true false false, .noopLcdHRsv13 true false false true,
      .noopLcdHRsv14 false false false false, .noopLcdHRsv15 true false true false] := by
  decide

theorem test_decode_noop_lcd_hr : keys
    [0x0506, 0x0F16, 0x0826, 0x0436, 0x0946, 0x0056, 0x0A66, 0x0576, 0x0F86, 0x0896, 0x04A6, 0x09C6, 0x00D6,
      0x0AE6, 0x05F6]
    [.noopLcdHRNone false true false true, .noopLcdHRMono true true true true,
      .noopLcdHRPal4 true false false false, .noopLcdHRPal8 false true false false,
      .noopLcdHRGray true false false true, .noopLcdHRLcdH false false false false,
      .noopLcdHRLcdHR true false true false, .noopLcdHRLcdV false true false true,
      .noopLcdHRLcdVR true true true true, .noopLcdHRRgb555 true false false false,
      .noopLcdHRRgb565 false true false false, .noopLcdHRRgb32 true false false true,
      .noopLcdHRRsv13 false false false false, .noopLcdHRRsv14 true false true false,
      .noopLcdHRRsv15 false true false true] := by
  decide

theorem test_decode_noop_lcd_v : keys
    [0x0F07, 0x0817, 0x0427, 0x0937, 0x0047, 0x0A57, 0x0567, 0x0F77, 0x0887, 0x0497, 0x09A7, 0x00C7, 0x0AD7,
      0x05E7, 0x0FF7]
    [.noopLcdVNone true true true true, .noopLcdVMono true false false false,
      .noopLcdVPal4 false true false false, .noopLcdVPal8 true false false true,
      .noopLcdVGray false false false false, .noopLcdVLcdH true false true false,
      .noopLcdVLcdHR false true false true, .noopLcdVLcdV true true true true,
      .noopLcdVLcdVR true false false false, .noopLcdVRgb555 false true false false,
      .noopLcdVRgb565 true false false true, .noopLcdVRgb32 false false false false,
      .noopLcdVRsv13 true false true false, .noopLcdVRsv14 false true false true, .noopLcdVRsv15 true true true true] := by
  decide

theorem test_decode_noop_lcd_vr : keys
    [0x0808, 0x0418, 0x0928, 0x0038, 0x0A48, 0x0558, 0x0F68, 0x0878, 0x0488, 0x0998, 0x00A8, 0x0AC8, 0x05D8,
      0x0FE8, 0x08F8]
    [.noopLcdVRNone true false false false, .noopLcdVRMono false true false false,
      .noopLcdVRPal4 true false false true, .noopLcdVRPal8 false false false false,
      .noopLcdVRGray true false true false, .noopLcdVRLcdH false true false true,
      .noopLcdVRLcdHR true true true true, .noopLcdVRLcdV true false false false,
      .noopLcdVRLcdVR false true false false, .noopLcdVRRgb555 true false false true,
      .noopLcdVRRgb565 false false false false, .noopLcdVRRgb32 true false true false,
      .noopLcdVRRsv13 false true false true, .noopLcdVRRsv14 true true true true,
      .noopLcdVRRsv15 true false false false] := by
  decide

theorem test_decode_err_src : keys
    [0x0400, 0x0932, 0x0003, 0x0A59, 0x05AA, 0x0FFB, 0x080C, 0x040D, 0x093E, 0x000F]
    [.errSrcNoneAny false true false false .none, .errSrcPal4Any true false false true .pal8,
      .errSrcPal8Any false false false false .none, .errSrcRgb555Any true false true false .lcdH,
      .errSrcRgb565Any false true false true .rgb565, .errSrcRgb24Any true true true true .rsv15,
      .errSrcRgb32Any true false false false .none, .errSrcRsv13Any false true false false .none,
      .errSrcRsv14Any true false false true .pal8, .errSrcRsv15Any false false false false .none] := by
  decide

/-- Words written to `CTRL` (10_state.md R22): bit 0 is `START`, bits 31:1 are the operand. -/
theorem test_decode_start :
    (decode (.ctrl 0x00000001)).toOption = some (.start 0) ∧
      (decode (.ctrl 0x80000003)).toOption = some (.start 0x40000001) ∧
      (decode (.ctrl 0xFFFFFFFE)).toOption = none := by decide

/-- Reserved keys are refused (30_encoding.md R103). -/
theorem test_decode_refuses_reserved_keys :
    [0x1011, 0x2011, 0x4011, 0x8011].map (fun w => (decodeKey w).toOption) = [none, none, none, none] := by decide

/-! ### A small machine -/

/-- Bytes placed from an address up. -/
def place (a : Nat) (l : List Byte) (m : List Host.Cell) : List Host.Cell :=
  match l with
  | [] => m
  | v :: rest => place (a + 1) rest (Memory.write m a v)

/-- A machine after reset with the conventions of 95_test_vectors.md: the source at `0x1000`, the target at `0x2000`. -/
def scene (sf : Format) (gs : Count) (sw sh : Nat) (sp : Int) (src : List Byte) (tf : Format) (gt : Count) (tw th : Nat)
    (tp : Int) (tgt : List Byte) (x y : Int := 0) (value chan : Word := 0) : State :=
  { State.reset with
    regs := { Regs.zero with
      srcBase := 0x1000, srcPitch := BitVec.ofInt 32 sp, srcSize := BitVec.ofNat 32 (sh * 65536 + sw)
      srcMode := BitVec.ofNat 32 (gs.toNat * 65536 + sf.code.toNat), tgtBase := 0x2000
      tgtPitch := BitVec.ofInt 32 tp, tgtSize := BitVec.ofNat 32 (th * 65536 + tw)
      tgtMode := BitVec.ofNat 32 (gt.toNat * 65536 + tf.code.toNat), posX := BitVec.ofInt 32 x
      posY := BitVec.ofInt 32 y, colorValue := value, colorChan := chan }
    mem := place 0x2000 tgt (place 0x1000 src []) }

/-- The state `START` leaves. -/
def begun (s : State) : State :=
  match exec (.start 0) s with
  | .next t => t
  | _ => s

/-- The state an instruction leaves. -/
def after (i : Instr) (s : State) : State :=
  match exec i s with
  | .next t => t
  | _ => s

/-- `STATUS` and `n` target bytes after an instruction. -/
def drawn (i : Instr) (s : State) (n : Nat) : Option (Word × List Byte) :=
  match exec i s with
  | .next t => some (t.statusWord, (List.range n).map fun k => Memory.read t.mem (0x2000 + k))
  | _ => none

/-- `STATUS` and `LAST_ERROR` after an instruction. -/
def reported (i : Instr) (s : State) : Option (Word × Word) :=
  match exec i s with
  | .next t => some (t.statusWord, t.regs.lastError)
  | _ => none

/-! ### Monochrome kernels (95_test_vectors.md 1 and 2.2) -/

/-- V1 and V4: `1011` onto an 8-pixel target at `x = 2`, before `START`. -/
def v1Scene : State := scene .mono 0 4 1 1 [0xB0] .mono 0 8 1 1 [0x00] (x := 2)

/-- V1 and V4, in progress. -/
def v1 : State := begun v1Scene

/-- V1. -/
theorem test_m2m_v1 : drawn (.m2m true false false false) v1 1 = some (0x01000002, [0x2C]) := by decide

/-- MO6: a bottom-up source. -/
theorem test_m2m_mo6 : drawn (.m2m true false false false)
    (begun (scene .mono 0 8 2 (-1) [0x0F, 0xF0] .mono 0 8 2 1 [0x00, 0x00])) 2 = some (0x01000002, [0xF0, 0x0F]) := by
  decide

/-- MO7. -/
theorem test_m2p4_mo7 : drawn (.m2p4 true false false false)
    (begun (scene .mono 0 2 1 1 [0xC0] .pal4 0 4 1 2 [0x12, 0x34] (x := 1) (value := 0xAB))) 2 =
      some (0x02000002, [0x1B, 0xB4]) := by decide

/-- MO8. -/
theorem test_m2p8_mo8 : drawn (.m2p8 true false false false)
    (begun (scene .mono 0 8 1 1 [0xFF] .pal8 0 3 1 3 [0, 0, 0] (x := 1) (value := 0x1234))) 3 =
      some (0x03000002, [0x00, 0x34, 0x34]) := by decide

/-- MO9. -/
theorem test_m2g8_mo9 : drawn (.m2g8 false true false false)
    (begun (scene .mono 0 2 2 1 [0x80, 0x40] .gray 4 2 2 2 [0, 0, 0, 0] (value := 3))) 4 =
      some (0x04000002, [3, 0, 0, 3]) := by decide

/-- MO10. -/
theorem test_m2r555_mo10 : drawn (.m2r555 true false false false)
    (begun (scene .mono 0 2 1 1 [0x80] .rgb555 0 2 1 4 [0, 0, 0, 0] (value := 0xFFFF8001))) 4 =
      some (0x05000002, [0x01, 0x80, 0, 0]) := by decide

/-- MO11. -/
theorem test_m2r565_mo11 : drawn (.m2r565 true false false false)
    (begun (scene .mono 0 2 1 1 [0x40] .rgb565 0 2 1 4 [0x11, 0x22, 0x33, 0x44] (value := 0x07E0))) 4 =
      some (0x06000002, [0x11, 0x22, 0xE0, 0x07]) := by decide

/-- MO12. -/
theorem test_m2r24_mo12 : drawn (.m2r24 true false false false)
    (begun (scene .mono 0 1 2 1 [0x00, 0x80] .rgb24 0 1 1 3 [0, 0, 0] (y := -1) (chan := 0x00030201))) 3 =
      some (0x07000002, [1, 2, 3]) := by decide

/-- MO13: a bottom-up target. -/
theorem test_m2r32_mo13 : drawn (.m2r32 true false false false)
    (begun (scene .mono 0 1 2 1 [0x80, 0x00] .rgb32 0 1 2 (-4) [0, 0, 0, 0, 0, 0, 0, 0] (value := 0xDEADBEEF))) 8 =
      some (0x08000002, [0, 0, 0, 0, 0xEF, 0xBE, 0xAD, 0xDE]) := by decide

/-! ### Gray kernels (95_test_vectors.md 2.3 and 2.4) -/

/-- GR1's pixels, coverages `0 1 2 3 4` of 5 levels, with one row of the target. -/
def gr1 (tf : Format) (tgt : List Byte) (value chan : Word) : State :=
  begun (scene .gray 5 5 1 5 [0, 1, 2, 3, 4] tf 0 5 1 20 tgt (value := value) (chan := chan))

/-- GR1. -/
theorem test_g2r24_gr1 : drawn (.g2r24 false false) (gr1 .rgb24 [] 0 0x000000FF) 15 =
    some (0x0B000002, [0, 0, 0, 64, 0, 0, 128, 0, 0, 191, 0, 0, 255, 0, 0]) := by decide

/-- GR2: the division truncates toward zero. -/
theorem test_g2r24_gr2 : drawn (.g2r24 false false)
    (begun (scene .gray 5 2 1 2 [1, 3] .rgb24 0 2 1 6 [255, 255, 255, 255, 255, 255])) 6 =
      some (0x0B000002, [192, 192, 192, 65, 65, 65]) := by decide

/-- GR4: pixels `0x8010` and `0x001F`. -/
theorem test_g2r555_gr4 : drawn (.g2r555 false false)
    (begun (scene .gray 5 2 1 2 [2, 4] .rgb555 0 2 1 4 [0x00, 0x80, 0x00, 0x80] (value := 0x001F)
      (chan := 0x00FF0000))) 4 = some (0x09000002, [0x10, 0x80, 0x1F, 0x00]) := by decide

/-- GR5: pixel `0x8410`. -/
theorem test_g2r565_gr5 : drawn (.g2r565 false false)
    (begun (scene .gray 17 1 1 1 [8] .rgb565 0 1 1 2 [0xFF, 0xFF])) 2 = some (0x0A000002, [0x10, 0x84]) := by decide

/-- GR6: words `0x77101010` and `0x00FFFFFF`. -/
theorem test_g2r32_gr6 : drawn (.g2r32 false false)
    (begun (scene .gray 17 2 1 2 [1, 16] .rgb32 0 2 1 8 [0, 0, 0, 0x77, 0, 0, 0, 0x77] (value := 0x00FFFFFF)
      (chan := 0x00FFFFFF))) 8 = some (0x0C000002, [0x10, 0x10, 0x10, 0x77, 0xFF, 0xFF, 0xFF, 0x00]) := by decide

/-- GF3: pixels `0xBDEF` and `0x7FFF`. -/
theorem test_g8r555_gf3 : drawn (.g8r555 false false)
    (begun (scene .gray 256 2 1 2 [128, 254] .rgb555 0 2 1 4 [0x00, 0x80, 0x00, 0x00] (value := 0x7FFF)
      (chan := 0x00FFFFFF))) 4 = some (0x0D000002, [0xEF, 0xBD, 0xFF, 0x7F]) := by decide

/-- GF4: pixel `0x39E7`. -/
theorem test_g8r565_gf4 : drawn (.g8r565 false false)
    (begun (scene .gray 256 1 1 1 [64] .rgb565 0 1 1 2 [0, 0] (chan := 0x00FFFFFF))) 2 =
      some (0x0E000002, [0xE7, 0x39]) := by decide

/-- GF2: the shift of a negative product rounds down; coverage 1 skips. -/
theorem test_g8r24_gf2 : drawn (.g8r24 false false)
    (begun (scene .gray 256 3 1 3 [1, 2, 128] .rgb24 0 3 1 9 [255, 255, 255, 255, 255, 255, 255, 255, 255])) 9 =
      some (0x0F000002, [255, 255, 255, 253, 253, 253, 127, 127, 127]) := by decide

/-- GF5: words `0x114E0000` and `0x00640000`. -/
theorem test_g8r32_gf5 : drawn (.g8r32 false false)
    (begun (scene .gray 256 2 1 2 [200, 255] .rgb32 0 2 1 8 [0, 0, 0, 0x11, 0, 0, 0, 0x11] (value := 0x00640000)
      (chan := 0x00000064))) 8 = some (0x10000002, [0, 0, 0x4E, 0x11, 0, 0, 0x64, 0]) := by decide

/-- GG1's command. -/
def gg1 : State := begun (scene .gray 5 4 1 4 [0, 1, 4, 3] .gray 5 4 1 4 [2, 2, 2, 3])

/-- GG1: the sums clamp at 4. -/
theorem test_g2g_same_gg1 : drawn (.g2gSame false) gg1 4 = some (0x11000002, [2, 3, 4, 4]) := by decide

/-- GG3's command. -/
def gg3 : State := begun (scene .gray 17 3 1 3 [0x10, 0x01, 0x08] .gray 128 3 1 3 [0, 0, 0x64])

/-- GG3. -/
theorem test_g2g_conv_gg3 : drawn (.g2gConv false) gg3 3 = some (0x12000002, [0x7F, 0x07, 0x7F]) := by decide

/-! ### LCD kernels (95_test_vectors.md 2.5) -/

/-- LC1. -/
theorem test_lcdh_lc1 : drawn (.lcdh false false)
    (begun (scene .lcdH 5 6 1 6 [4, 4, 4, 1, 0, 3] .rgb24 0 2 1 6 [0, 0, 0, 0, 0, 0] (chan := 0x002864C8))) 6 =
      some (0x13000002, [0xC8, 0x64, 0x28, 0x32, 0x00, 0x1E]) := by decide

/-- LC2: a channel at `m` in a pixel that is not fully opaque. -/
theorem test_lcdh_lc2 : drawn (.lcdh false false)
    (begun (scene .lcdH 5 3 1 3 [4, 0, 0] .rgb24 0 1 1 3 [0xFF, 0xFF, 0xFF])) 3 =
      some (0x13000002, [0x01, 0xFF, 0xFF]) := by decide

/-- LC3: reversed samples. -/
theorem test_lcdhr_lc3 : drawn (.lcdhr false false)
    (begun (scene .lcdHR 17 3 1 3 [0x10, 0x08, 0x00] .rgb24 0 1 1 3 [0, 0, 0] (chan := 0x00FFFFFF))) 3 =
      some (0x15000002, [0x00, 0x80, 0xFF]) := by decide

/-- LC4. -/
theorem test_lcdh8_lc4 : drawn (.lcdh8 false false)
    (begun (scene .lcdH 256 6 1 6 [0x01, 0x01, 0x00, 0xFE, 0xFF, 0xFE] .rgb24 0 2 1 6 [5, 6, 7, 8, 9, 10]
      (chan := 0x00C89664))) 6 = some (0x14000002, [0x05, 0x06, 0x07, 0x64, 0x96, 0xC8]) := by decide

/-- LC5. -/
theorem test_lcdhr8_lc5 : drawn (.lcdhr8 false false)
    (begun (scene .lcdHR 256 3 1 3 [0x00, 0x80, 0x02] .rgb24 0 1 1 3 [0, 0, 0] (chan := 0x00FFFFFF))) 3 =
      some (0x16000002, [0x01, 0x7F, 0x00]) := by decide

/-- LC6: a bottom-up vertical source of 256 levels under the general law. -/
theorem test_lcdv_lc6 : drawn (.lcdv false false true)
    (begun (scene .lcdV 256 1 3 (-1) [0x01, 0x80, 0xFF] .rgb24 0 1 1 3 [0, 0, 0] (chan := 0x00FFFFFF))) 3 =
      some (0x17000002, [0xFF, 0x80, 0x01]) := by decide

/-- LC7. -/
theorem test_lcdvr_lc7 : drawn (.lcdvr false false false)
    (begun (scene .lcdVR 5 1 6 1 [4, 2, 0, 0, 0, 0] .rgb24 0 1 2 3 [0, 0, 0, 9, 9, 9] (chan := 0x00FFFFFF))) 6 =
      some (0x18000002, [0x00, 0x80, 0xFF, 9, 9, 9]) := by decide

/-! ### START, clipping and the outcome rows (95_test_vectors.md 2.1 and 2.7) -/

/-- The context registers, in the order of the vectors, and `CTX_KEY`. -/
def context (s : State) : List Word :=
  [s.ctx.readX, s.ctx.readY, s.ctx.writeX, s.ctx.writeY, s.ctx.visW, s.ctx.visH, s.ctx.rightClip, s.ctx.key]

/-- V1: `CTX` and `CTX_KEY` after `START`. -/
theorem test_start_v1 : context v1 = [0, 0, 2, 0, 6, 1, 2, 0x80000811] := by decide

/-- CL11, CL12, CL13, CL19, CL21 and CL22. -/
theorem test_clip_vectors :
    clip .gray .rgb24 12 12 10 10 (-1) (-1) = some ⟨1, 1, 0, 0, 10, 10, 1⟩ ∧
    clip .mono .mono 5 1 12 1 6 0 = some ⟨0, 0, 6, 0, 8, 1, 0⟩ ∧
    clip .mono .mono 5 1 12 1 10 0 = some ⟨0, 0, 10, 0, 6, 1, 2⟩ ∧
    clip .lcdV .rgb24 2 7 10 10 0 (-1) = some ⟨0, 1, 0, 0, 2, 1, 0⟩ ∧
    clip .gray .rgb24 3 1 65535 1 (-2147483648) 0 = none ∧
    clip .gray .rgb24 65535 1 65535 1 65534 0 = some ⟨0, 0, 65534, 0, 1, 1, 65534⟩ := by decide

/-- NB1: `START` right after reset. -/
theorem test_start_nb1 : reported (.start 0) State.reset = some (0x0001FF02, 0xFFFFFFFF) := by decide

/-- DS1. -/
theorem test_err_src_ds1 : reported (.errSrcPal8Any true false false false .rgb24)
    (begun (scene .pal8 0 1 1 1 [0] .rgb24 0 1 1 3 [])) = some (0x0003FE02, 0xFFFFFFFE) := by decide

/-- DS9. -/
theorem test_err_tgt_ds9 : reported (.errTgtGrayBadcount false false)
    (begun (scene .gray 5 1 1 1 [0] .gray 1 1 1 1 [])) = some (0x0002FF02, 0xFFFFFFFF) := by decide

/-- DS14. -/
theorem test_err_arg_ds14 : reported (.errArgLcdHRgb24 false false false)
    (begun (scene .lcdH 300 3 1 3 [0, 0, 0] .rgb24 0 1 1 3 [])) = some (0x0001FF02, 0xFFFFFFFF) := by decide

/-- DS12. -/
theorem test_noop_lcd_ds12 : reported (.noopLcdVRgb565 true false false false)
    (begun (scene .lcdV 0 1 3 1 [0, 0, 0] .rgb565 0 1 1 2 [])) = some (0x00000006, 0) := by decide

/-- CA6: the saturation key is cached, the conversion cache is full. -/
theorem test_g2g_conv_ca6 : reported (.g2gConv true)
    { begun (scene .gray 256 1 1 1 [0] .gray 5 1 1 1 []) with
      params := { Config.params with satCap := 2, convCap := 1 }, sat := [5, 17], conv := [(5, 17)] } =
      some (0x0004FD02, 0xFFFFFFFD) := by decide

/-- BF1: the lowest address that the port does not answer. -/
def bf1 : State :=
  begun { scene .gray 5 3 1 3 [1, 2, 3] .rgb24 0 3 1 9 [] with
    params := { Config.params with memAdmit := [(0x1000, 0x2004)] } }

/-- BF1. -/
theorem test_bus_fault_bf1 : (match exec (.g2r24 false false) bf1 with
    | .fault (.busFault a) => a
    | _ => 0) = 0x2004 := by decide

/-! ### Witnesses: encodings and the register port -/

/-- A key and a `CTRL` word that decode, every free bit set. -/
theorem witness_DecodeAndEncodeAgree :
    decode (.key 0x0FFF) = .ok (.errSrcRsv15Any true true true true .rsv15) ∧
      decode (.ctrl 0xFFFFFFFF) = .ok (.start 0x7FFFFFFF) := ⟨rfl, rfl⟩

/-- The lowest and the highest key with bits 15:12 = 0. -/
theorem witness_EveryKeyMatchesOneRow :
    (0x0000 : Key).extractLsb' 12 4 = 0 ∧ (0x0FFF : Key).extractLsb' 12 4 = 0 := by decide

/-- A formed key with `S256`. -/
theorem witness_ReservedKeysAreNeverFormed :
    (scene .gray 256 1 1 1 [] .rgb24 0 1 1 3 []).formKey.getLsbD 9 = true := by decide

/-- Gray sources of counts 1, 2, 256 and 257, and of 5 into gray of 1, 5 and 256 and into 1 bit. -/
theorem witness_GraySourcesTakeTheGrayBranch :
    ([1, 2, 256, 257].map fun g =>
      let s := scene .gray g 1 1 1 [] .rgb24 0 1 1 3 []
      (s.srcFormat, validCount s.srcGrays, s.tgtFormat.isColourTarget)) =
      [(.gray, false, true), (.gray, true, true), (.gray, true, true), (.gray, false, true)] ∧
    ([1, 5, 256].map fun g =>
      let s := scene .gray 5 1 1 1 [] .gray g 1 1 3 []
      (s.srcFormat, s.tgtFormat, validCount s.tgtGrays, s.srcGrays == s.tgtGrays)) =
      [(.gray, .gray, false, false), (.gray, .gray, true, true), (.gray, .gray, true, false)] ∧
    (scene .gray 5 1 1 1 [] .mono 0 1 1 1 []).tgtFormat.isColourTarget = false := by decide

/-- An IDLE block and a write to a register with reserved bits. -/
theorem witness_RegisterHoldsWhatIsWritten :
    let s := { State.reset with schedule := [hostWr Config.params .srcMode 0xFFFFFFFF] }
    s.phase = .idle ∧ Reg.srcMode.isWritable = true ∧ s.schedule = hostWr s.params .srcMode 0xFFFFFFFF :: [] :=
  ⟨rfl, rfl, rfl⟩

/-- `STATUS`, the first and the last reserved offset, and `CTRL` with bit 0 clear. -/
theorem witness_ReadOnlyWritesAreIgnored :
    (∀ offset ∈ [0x04, 0x60, 0xFC, 0x00], offset % 4 = 0 ∧ offset < 0x100 ∧
      (Reg.ofOffset offset).isWritable = false ∧
      (Reg.ofOffset offset = .ctrl → (0xFFFFFFFE : Word).getLsbD 0 = false)) ∧
    ({ State.reset with schedule := [.portWrite 0x60 4 0xFFFFFFFE] } : State).schedule =
      .portWrite (State.reset.params.regBase + 0x60) 4 0xFFFFFFFE :: [] := ⟨by decide, rfl⟩

/-- A BUSY block, a write to `CTRL`, a write to the last offset, and a read. -/
theorem witness_RegisterWritesAreIgnoredWhileBusy :
    v1.phase = .busy ∧
      ({ v1 with schedule := [.portWrite 0x00 4 1] } : State).schedule =
        .portWrite (v1.params.regBase + 0x00) 4 1 :: [] ∧
      ({ v1 with schedule := [.portWrite 0xFC 4 1] } : State).schedule =
        .portWrite (v1.params.regBase + 0xFC) 4 1 :: [] ∧
      ({ v1 with schedule := [.portRead 0x40 4] } : State).schedule = .portRead (v1.params.regBase + 0x40) 4 :: [] :=
  ⟨by decide, rfl, rfl, rfl⟩

/-- Accesses below the block, past it, of another size, and between words. -/
theorem witness_OtherPortAccessesAreRefused :
    let p := { Config.params with regBase := 0x1000 }
    let s := { State.resetWith p with schedule := [.portWrite 0x0FFC 4 1] }
    ((0x0FFC : Nat) < s.params.regBase ∧ s.schedule = .portWrite 0x0FFC 4 1 :: []) ∧
      0x100 ≤ 0x1100 - s.params.regBase ∧ (2 : Nat) ≠ 4 ∧ (0x1002 - s.params.regBase) % 4 ≠ 0 := by decide

/-- Reads of an IDLE block: the first offset, the first reserved one and the last. -/
theorem witness_RegisterReadHasNoSideEffect :
    ∀ o ∈ [0x00, 0x60, 0xFC], let s := { State.reset with schedule := [.portRead o 4] }
      s.phase = .idle ∧ o % 4 = 0 ∧ o < 0x100 ∧ s.schedule = .portRead (s.params.regBase + o) 4 :: [] := by decide

/-- The command of V1, in progress, meets the invariant. -/
theorem inv_v1 : v1.Inv where
  params := by decide
  memory := by decide
  space := by decide
  srcBase := by decide
  tgtBase := by decide
  srcMode := by decide
  tgtMode := by decide
  satCap := by decide
  satNodup := by decide
  satValid := by decide
  convCap := by decide
  convNodup := by decide
  convValid := fun p h => by
    rw [show v1.conv = [] by decide] at h
    cases h
  status := by decide
  key := by rfl
  busy := fun _ => ⟨by decide, by decide, by decide, ⟨⟨0, 0, 2, 0, 6, 1, 2⟩, by decide, by decide⟩⟩
  idle := fun h => absurd h (by decide)

/-- It does so whatever events wait. -/
theorem inv_v1_with (l : List Event) : ({ v1 with schedule := l } : State).Inv :=
  let h := inv_v1
  ⟨h.params, h.memory, h.space, h.srcBase, h.tgtBase, h.srcMode, h.tgtMode, h.satCap, h.satNodup, h.satValid, h.convCap,
    h.convNodup, h.convValid, h.status, h.key,
    fun hp => let b := h.busy hp; ⟨b.notDone, b.notNull, b.notZero, b.context⟩, fun hp => h.idle hp⟩

/-- The row of V1's command. -/
abbrev v1Row : Instr := .m2m true false false false

/-- Reads of `STATUS`, of a register that R302 leaves open and of one it does not, while V1 is in progress; `START`
begins it, and its turn completes. -/
theorem witness_ReadsWhileBusy :
    (v1.phase = .busy ∧ Reg.cacheInfo.midCommand = true ∧ step { v1 with schedule := [] } = .next (after v1Row v1)) ∧
    (v1Scene.phase = .idle ∧ Reg.ctxKey.midCommand = true ∧ exec (.start 0) v1Scene = .next v1) ∧
    ∀ r ∈ [Reg.status, .ctxKey, .srcMode], let s := { v1 with schedule := [hostRd v1.params r] }
      s.Inv ∧ s.phase = .busy ∧ s.schedule = hostRd s.params r :: [] :=
  ⟨⟨by decide, rfl, rfl⟩, ⟨rfl, rfl, rfl⟩, fun r _ => ⟨inv_v1_with _, (by decide : v1.phase = .busy), rfl⟩⟩

/-- A machine that meets the invariant; the step that begins V1, the one that completes it, and NB1's, which begins and
completes a command. -/
theorem witness_StatusAndCacheInfoHaveTheirFields :
    v1.Inv ∧
    (∃ s : State, step s = .next v1 ∧ s.phase = .idle ∧ v1.phase = .busy ∧ ∀ rest, s.schedule ≠ .reset :: rest) ∧
    (step v1 = .next (after v1Row v1) ∧ (after v1Row v1).phase = .idle ∧ ∀ rest, v1.schedule ≠ .reset :: rest) ∧
    ∃ s t : State, step s = .next t ∧ s.phase = .idle ∧ t.phase = .idle ∧ ∀ rest, s.schedule ≠ .reset :: rest :=
  ⟨inv_v1, ⟨{ v1Scene with schedule := [hostWr Config.params .ctrl 1] }, rfl, rfl, by decide, nofun⟩,
    ⟨rfl, by decide, fun rest h => by
      rw [show v1.schedule = [] by decide] at h
      cases h⟩,
    { State.reset with schedule := [hostWr Config.params .ctrl 1] }, after (.start 0) State.reset, rfl, rfl, by decide,
    nofun⟩

/-! ### Witnesses: START and clipping -/

/-- Both bases 0, and the target's alone. -/
theorem witness_NullBitmapIsAnArgumentError :
    (State.reset.phase = .idle ∧ (State.reset.srcBase = 0 ∨ State.reset.tgtBase = 0)) ∧
      let s := { State.reset with regs := { Regs.zero with srcBase := 1 } }
      s.phase = .idle ∧ s.srcBase = 1 ∧ s.tgtBase = 0 := by decide

/-- A width of 0, and a height of 0. -/
theorem witness_ZeroSizeSourceIsANoop :
    ∀ w ∈ [(0, 1), (1, 0)], let s := scene .gray 5 w.1 w.2 1 [] .rgb24 0 1 1 3 []
      s.phase = .idle ∧ s.srcBase ≠ 0 ∧ s.tgtBase ≠ 0 ∧ (s.srcWidth = 0 ∨ s.srcHeight = 0) := by decide

/-- CL6: one column left of the target; CL7: one column right of it. -/
theorem witness_ClippedCommandIsANoop :
    ∀ x ∈ [-4, 10], let s := scene .gray 5 4 3 4 [] .rgb24 0 10 10 30 [] (x := x)
      s.phase = .idle ∧ s.srcBase ≠ 0 ∧ s.tgtBase ≠ 0 ∧ s.srcWidth ≠ 0 ∧ s.srcHeight ≠ 0 ∧ s.clip = none := by decide

/-- CL5: one column inside on the left. -/
theorem witness_StartFormsTheDispatchKey :
    let s := scene .gray 5 4 3 4 [] .rgb24 0 10 10 30 [] (x := -3)
    s.phase = .idle ∧ s.srcBase ≠ 0 ∧ s.tgtBase ≠ 0 ∧ s.srcWidth ≠ 0 ∧ s.srcHeight ≠ 0 ∧
      s.clip = some ⟨3, 0, 0, 0, 1, 3, 0⟩ := by decide

/-- CL8: one pixel in the last corner. -/
theorem witness_ClipLiesInsideSourceAndTarget :
    clip .gray .rgb24 4 3 10 10 9 9 = some ⟨0, 0, 9, 9, 1, 1, 3⟩ := by decide

/-- CL5 and CL8 draw at the edges. -/
theorem witness_ClipFollowsTheRules :
    clip .gray .rgb24 4 3 10 10 (-3) 0 = some ⟨3, 0, 0, 0, 1, 3, 0⟩ ∧
      clip .gray .rgb24 4 3 10 10 9 9 = some ⟨0, 0, 9, 9, 1, 1, 3⟩ := by decide

/-! ### Witnesses: blend laws and tables -/

/-- Coverages 0 and `m` for `m = 1`; a fill equal to the target, and one below it, for `m = 2`; a product above 0, one
equal to 0 and one below it. -/
theorem witness_GeneralBlendLaw :
    (1 ≤ 1 ∧ 0 ≤ 1) ∧ (1 ≤ 1 ∧ 1 ≤ 1) ∧ (2 ≤ 2 ∧ 9 ≤ 9) ∧ ((2 : Nat) ≤ 2 ∧ (8 : Nat) < 9) ∧
      (0 : Int) ≤ 1 * (255 - 0) + 2 ∧ (0 : Int) = 1 * (0 - 1) + 1 ∧ (1 : Int) * (0 - 255) + 2 < 0 := by decide

/-- The largest coverage. -/
theorem witness_FastBlendStaysBetweenTargetAndFill : (255 : Nat) < 256 := by decide

/-- The table for 5: indices 4, 5, 13 and 14. -/
theorem witness_SaturationTableEntries :
    (1 ≤ 5 ∧ 4 ≤ 5 - 1) ∧ (5 ≤ 5 ∧ 5 ≤ 3 * 5 - 2) ∧ (5 ≤ 13 ∧ 13 ≤ 3 * 5 - 2) ∧ (3 * 5 - 2 : Nat) < 14 := by decide

/-- The table for `(128, 17)`: indices 0, 16 and 17. -/
theorem witness_ConversionTableEntries :
    (2 ≤ 128 ∧ 2 ≤ 17) ∧ 0 ≤ 17 - 1 ∧ 16 ≤ 17 - 1 ∧ (17 - 1 : Nat) < 17 := by decide

/-! ### Witnesses: kernels -/

/-- V1's command with the target laid over the source. -/
def v1Over : State := { v1 with regs := { v1.regs with tgtBase := 0x1000 } }

/-- V1's kernel, and GG3's with its two tables; V1 also when disturbed, and when its spans share a byte. -/
theorem witness_KernelRowsCompleteAndKeepTheRest :
    (kernelOf v1Row = some kernelM2M ∧ kernelM2M.lookups v1 = .ok v1 ∧ v1.Admitted .mono .mono ∧
      kernelM2M.tables = .none) ∧
    (kernelM2M.lookups { v1 with disturbed := true } = .ok { v1 with disturbed := true } ∧
      ({ v1 with disturbed := true } : State).Admitted .mono .mono ∧ Memory.wf v1.mem = true) ∧
    (kernelM2M.lookups v1Over = .ok v1Over ∧ v1Over.Admitted .mono .mono ∧
      ∃ a ∈ v1Over.srcSpan .mono, a ∈ v1Over.tgtSpan .mono) ∧
    kernelOf (.g2gConv false) = some kernelG2gConv ∧
      kernelG2gConv.lookups gg3 = .ok { gg3 with sat := [128], conv := [(128, 17)] } ∧ gg3.Admitted .gray .gray :=
  ⟨⟨rfl, rfl, by unfold State.Admitted; decide, rfl⟩, ⟨rfl, by unfold State.Admitted; decide, by decide⟩,
    ⟨rfl, by unfold State.Admitted; decide, 0x1000, by decide, by decide⟩, rfl, rfl,
    by unfold State.Admitted; decide⟩

/-- BF1: `0x2004` is the lowest address refused. -/
theorem witness_UnadmittedAddressIsABusFault :
    kernelOf (.g2r24 false false) = some kernelG2R24 ∧ kernelG2R24.lookups bf1 = .ok bf1 ∧
      0x2004 ∈ bf1.srcSpan .gray ++ bf1.tgtSpan .rgb24 ∧ admits bf1.params 0x2004 = false ∧
      ∀ b ∈ bf1.srcSpan .gray ++ bf1.tgtSpan .rgb24, admits bf1.params b = false → 0x2004 ≤ b :=
  ⟨rfl, rfl, by decide, by decide, by decide⟩

/-- A command is ready, checked address by address. -/
theorem ready_of_checks (s : State) (sf tf : Format)
    (ha : ((s.srcSpan sf ++ s.tgtSpan tf).all (admits s.params)) = true)
    (hd : ((s.srcSpan sf).all fun a => !(s.tgtSpan tf).contains a) = true) (hq : s.disturbed = false) :
    s.Ready sf tf where
  admitted := List.all_eq_true.1 ha
  undisturbed := ⟨fun a h => by simpa using List.all_eq_true.1 hd a h, hq⟩

/-- Pixels are apart, checked pair by pair. -/
theorem apart_of_checks (s : State) (tf : Format)
    (h : (s.visible.all fun p => s.visible.all fun q =>
      p == q || (s.tgtBytes tf p).all fun a => !(s.tgtBytes tf q).contains a) = true) : s.PixelsApart tf := by
  intro p hp q hq hne a ha
  have := List.all_eq_true.1 (List.all_eq_true.1 h p hp) q hq
  simp only [Bool.or_eq_true, beq_iff_eq, hne, false_or] at this
  simpa using List.all_eq_true.1 this a ha

/-- A mono command of two pixels, one set and one clear, onto a target of any format. -/
def twoPixels (tf : Format) (tp : Int) : State :=
  begun (scene .mono 0 2 1 1 [0x80] tf 0 2 1 tp [] (value := 0x12345678) (chan := 0x00030201))

/-- V1 draws set and clear bits. -/
theorem witness_MonoToMonoOrsSourceBits : Memory.wf v1.mem = true ∧ v1.Ready .mono .mono ∧
    v1.visible.map v1.sourceBitAt = [true, false, true, true, false, false] :=
  ⟨by decide, ready_of_checks _ _ _ (by decide) (by decide) (by decide), by decide⟩

/-- A set and a clear pixel, in the two nibbles of a byte. -/
theorem witness_MonoToPalette4WritesNibbles :
    let s := twoPixels .pal4 1
    Memory.wf s.mem = true ∧ s.Ready .mono .pal4 ∧ s.visible.map s.sourceBitAt = [true, false] :=
  ⟨by decide, ready_of_checks _ _ _ (by decide) (by decide) (by decide), by decide⟩

/-- A set and a clear pixel, for each target. -/
theorem witness_MonoToByteTargetsWriteTheColour : ∀ tf ∈ [Format.pal8, .gray],
    let s := twoPixels tf 2
    Memory.wf s.mem = true ∧ s.Ready .mono tf ∧ s.visible.map s.sourceBitAt = [true, false] := by
  simp only [List.forall_mem_cons, List.not_mem_nil, false_imp_iff, implies_true, and_true]
  exact ⟨⟨by decide, ready_of_checks _ _ _ (by decide) (by decide) (by decide), by decide⟩,
    by decide, ready_of_checks _ _ _ (by decide) (by decide) (by decide), by decide⟩

/-- A set and a clear pixel, for each target. -/
theorem witness_MonoToRgb16WritesTheColour : ∀ tf ∈ [Format.rgb555, .rgb565],
    let s := twoPixels tf 4
    Memory.wf s.mem = true ∧ s.Ready .mono tf ∧ s.PixelsApart tf ∧ s.visible.map s.sourceBitAt = [true, false] := by
  simp only [List.forall_mem_cons, List.not_mem_nil, false_imp_iff, implies_true, and_true]
  exact ⟨⟨by decide, ready_of_checks _ _ _ (by decide) (by decide) (by decide), apart_of_checks _ _ (by decide),
    by decide⟩, by decide, ready_of_checks _ _ _ (by decide) (by decide) (by decide),
    apart_of_checks _ _ (by decide), by decide⟩

/-- A set and a clear pixel. -/
theorem witness_MonoToRgb24WritesTheChannels :
    let s := twoPixels .rgb24 6
    Memory.wf s.mem = true ∧ s.Ready .mono .rgb24 ∧ s.PixelsApart .rgb24 ∧
      s.visible.map s.sourceBitAt = [true, false] :=
  ⟨by decide, ready_of_checks _ _ _ (by decide) (by decide) (by decide), apart_of_checks _ _ (by decide), by decide⟩

/-- A set and a clear pixel. -/
theorem witness_MonoToRgb32WritesTheColour :
    let s := twoPixels .rgb32 8
    Memory.wf s.mem = true ∧ s.Ready .mono .rgb32 ∧ s.PixelsApart .rgb32 ∧
      s.visible.map s.sourceBitAt = [true, false] :=
  ⟨by decide, ready_of_checks _ _ _ (by decide) (by decide) (by decide), apart_of_checks _ _ (by decide), by decide⟩

/-- V4: the command of V1 runs twice. -/
theorem witness_MonoKernelsAreIdempotent :
    let i := Instr.m2m true false false false
    Memory.wf v1.mem = true ∧ v1.Ready .mono .mono ∧ exec i v1 = .next (after i v1) ∧
      exec i (after i v1) = .next (after i (after i v1)) :=
  ⟨by decide, ready_of_checks _ _ _ (by decide) (by decide) (by decide), rfl, rfl⟩

/-- A gray command whose pixels have the coverages of `src`, for a count. -/
def shades (gs : Count) (src : List Byte) (tf : Format) : State :=
  begun (scene .gray gs src.length 1 src.length src tf 0 src.length 1 (4 * src.length) [] (value := 0x12345678)
    (chan := 0x00030201))

/-- Coverages 0, 1, `m - 1`, `m` and `m + 1`, for each colour target of the general law. -/
theorem witness_gray_general : ∀ tf ∈ [Format.rgb555, .rgb565, .rgb24, .rgb32],
    let s := shades 5 [0, 1, 3, 4, 5] tf
    Memory.wf s.mem = true ∧ s.Ready .gray tf ∧ s.PixelsApart tf ∧
      s.visible.map s.coverageAt = [0, 1, 3, 4, 5] ∧
      s.srcGrays.toNat - 1 = 4 := by
  simp only [List.forall_mem_cons, List.not_mem_nil, false_imp_iff, implies_true, and_true]
  refine ⟨⟨by decide, ready_of_checks _ _ _ (by decide) (by decide) (by decide), apart_of_checks _ _ (by decide),
    by decide, by decide⟩, ⟨by decide, ready_of_checks _ _ _ (by decide) (by decide) (by decide),
    apart_of_checks _ _ (by decide), by decide, by decide⟩, ⟨by decide,
    ready_of_checks _ _ _ (by decide) (by decide) (by decide), apart_of_checks _ _ (by decide), by decide, by decide⟩,
    by decide, ready_of_checks _ _ _ (by decide) (by decide) (by decide), apart_of_checks _ _ (by decide), by decide,
    by decide⟩

theorem witness_GrayToRgb24FollowsTheGeneralLaw :
    let s := shades 5 [0, 1, 3, 4, 5] .rgb24
    Memory.wf s.mem = true ∧ s.Ready .gray .rgb24 ∧ s.PixelsApart .rgb24 ∧
      s.visible.map s.coverageAt = [0, 1, 3, 4, 5] ∧
      s.srcGrays.toNat - 1 = 4 := witness_gray_general _ (by decide)

theorem witness_GrayToRgb32FollowsTheGeneralLaw :
    let s := shades 5 [0, 1, 3, 4, 5] .rgb32
    Memory.wf s.mem = true ∧ s.Ready .gray .rgb32 ∧ s.PixelsApart .rgb32 ∧
      s.visible.map s.coverageAt = [0, 1, 3, 4, 5] ∧
      s.srcGrays.toNat - 1 = 4 := witness_gray_general _ (by decide)

theorem witness_GrayToRgb555FollowsTheGeneralLaw :
    let s := shades 5 [0, 1, 3, 4, 5] .rgb555
    Memory.wf s.mem = true ∧ s.Ready .gray .rgb555 ∧ s.PixelsApart .rgb555 ∧
      s.visible.map s.coverageAt = [0, 1, 3, 4, 5] ∧ s.srcGrays.toNat - 1 = 4 := witness_gray_general _ (by decide)

theorem witness_GrayToRgb565FollowsTheGeneralLaw :
    let s := shades 5 [0, 1, 3, 4, 5] .rgb565
    Memory.wf s.mem = true ∧ s.Ready .gray .rgb565 ∧ s.PixelsApart .rgb565 ∧
      s.visible.map s.coverageAt = [0, 1, 3, 4, 5] ∧ s.srcGrays.toNat - 1 = 4 := witness_gray_general _ (by decide)

/-- Coverages 1, 2, 253 and 254, for each colour target of the fast law. -/
theorem witness_gray_fast : ∀ tf ∈ [Format.rgb555, .rgb565, .rgb24, .rgb32],
    let s := shades 256 [1, 2, 253, 254] tf
    Memory.wf s.mem = true ∧ s.Ready .gray tf ∧ s.PixelsApart tf ∧
      s.visible.map s.coverageAt = [1, 2, 253, 254] := by
  simp only [List.forall_mem_cons, List.not_mem_nil, false_imp_iff, implies_true, and_true]
  refine ⟨⟨by decide, ready_of_checks _ _ _ (by decide) (by decide) (by decide), apart_of_checks _ _ (by decide),
    by decide⟩, ⟨by decide, ready_of_checks _ _ _ (by decide) (by decide) (by decide),
    apart_of_checks _ _ (by decide), by decide⟩, ⟨by decide,
    ready_of_checks _ _ _ (by decide) (by decide) (by decide), apart_of_checks _ _ (by decide), by decide⟩,
    by decide, ready_of_checks _ _ _ (by decide) (by decide) (by decide), apart_of_checks _ _ (by decide), by decide⟩

theorem witness_FastGrayToByteChannels : ∀ tf ∈ [Format.rgb24, .rgb32],
    let s := shades 256 [1, 2, 253, 254] tf
    Memory.wf s.mem = true ∧ s.Ready .gray tf ∧ s.PixelsApart tf ∧
      s.visible.map s.coverageAt = [1, 2, 253, 254] :=
  fun tf h => witness_gray_fast tf (by revert h; cases tf <;> decide)

theorem witness_FastGrayToRgb16 : ∀ tf ∈ [Format.rgb555, .rgb565],
    let s := shades 256 [1, 2, 253, 254] tf
    Memory.wf s.mem = true ∧ s.Ready .gray tf ∧ s.PixelsApart tf ∧
      s.visible.map s.coverageAt = [1, 2, 253, 254] :=
  fun tf h => witness_gray_fast tf (by revert h; cases tf <;> decide)

/-- GG1's command with room in the cache: the sums 2 and 13, the last index of the table, and 14, the first past it. -/
theorem witness_GrayIntoGrayAddsAndClamps :
    let s := begun (scene .gray 5 3 1 3 [0, 4, 4] .gray 5 3 1 3 [2, 9, 10])
    Memory.wf s.mem = true ∧ validCount s.tgtGrays = true ∧ s.sat.length < s.params.satCap ∧ s.Ready .gray .gray ∧
      s.PixelsApart .gray ∧
      (s.visible.map fun p => (s.byteAt (s.tgtAddr 1 p)).toNat + s.coverageAt p) = [2, 13, 14] ∧
      3 * s.tgtGrays.toNat - 2 = 13 :=
  ⟨by decide, by decide, by decide, ready_of_checks _ _ _ (by decide) (by decide) (by decide),
    apart_of_checks _ _ (by decide), by decide, by decide⟩

/-- A command from 17 levels to 5 with room in both caches: coverages 16 (the last index), 16 on a target that leaves the
saturation table, and 17, past the conversion table. -/
theorem witness_GrayIntoGrayRescales :
    let s := begun (scene .gray 17 3 1 3 [16, 16, 17] .gray 5 3 1 3 [9, 10, 0])
    Memory.wf s.mem = true ∧ validCount s.tgtGrays = true ∧ s.sat.length < s.params.satCap ∧
      s.conv.length < s.params.convCap ∧ s.Ready .gray .gray ∧ s.PixelsApart .gray ∧
      s.visible.map s.coverageAt = [16, 16, 17] ∧ s.srcGrays.toNat = 17 ∧ 16 * (s.tgtGrays.toNat - 1) / 16 = 4 ∧
      (s.visible.map fun p => (s.byteAt (s.tgtAddr 1 p)).toNat) = [9, 10, 0] ∧ 3 * s.tgtGrays.toNat - 2 = 13 :=
  ⟨by decide, by decide, by decide, by decide, ready_of_checks _ _ _ (by decide) (by decide) (by decide),
    apart_of_checks _ _ (by decide), by decide, by decide, by decide, by decide, by decide⟩

/-- CA7: the saturation cache is full; CA6: the conversion cache is; the last case of 95_test_vectors.md 2.6: the
saturation key is new and there is room for it. -/
theorem witness_FullCacheEndsTheCommand :
    let p := { Config.params with satCap := 2, convCap := 1 }
    let a := { gg1 with params := p, sat := [9, 17] }
    let b := { gg3 with params := p, sat := [128], conv := [(5, 17)] }
    let c := { gg3 with params := p, sat := [5], conv := [(5, 17)] }
    (a.tgtGrays ∉ a.sat ∧ a.params.satCap ≤ a.sat.length) ∧
      (b.tgtGrays ∈ b.sat ∧ (b.tgtGrays, b.srcGrays) ∉ b.conv ∧ b.params.convCap ≤ b.conv.length) ∧
      (c.tgtGrays ∉ c.sat ∧ c.sat.length < c.params.satCap ∧ (c.tgtGrays, c.srcGrays) ∉ c.conv ∧
        c.params.convCap ≤ c.conv.length) := by decide

/-- An LCD command whose pixels have the samples of `src`, in one row or in one column, for a count. -/
def subpixels (sf : Format) (gs : Count) (src : List Byte) (horizontal : Bool) : State :=
  begun (scene sf gs (if horizontal then src.length else 1) (if horizontal then 1 else src.length)
    (if horizontal then src.length else 1) src .rgb24 0 4 4 12 [] (chan := 0x00030201))

/-- Pixels with samples `0 0 0`, `4 4 4`, `0 1 4` and `0 5 0`, of 5 levels. -/
theorem witness_LcdKernelsFollowTheGeneralLaw :
    ∀ r ∈ [(Format.lcdH, true), (.lcdHR, true), (.lcdV, false), (.lcdVR, false)],
    let s := subpixels r.1 5 [0, 0, 0, 4, 4, 4, 0, 1, 4, 0, 5, 0] r.2
    Memory.wf s.mem = true ∧ s.Ready r.1 .rgb24 ∧ s.PixelsApart .rgb24 ∧ s.visible.length = 4 ∧
      (s.srcSpan r.1).map (fun a => (s.byteAt a).toNat) = [0, 0, 0, 4, 4, 4, 0, 1, 4, 0, 5, 0] := by
  simp only [List.forall_mem_cons, List.not_mem_nil, false_imp_iff, implies_true, and_true]
  refine ⟨⟨by decide, ready_of_checks _ _ _ (by decide) (by decide) (by decide), apart_of_checks _ _ (by decide),
    by decide, by decide⟩, ⟨by decide, ready_of_checks _ _ _ (by decide) (by decide) (by decide),
    apart_of_checks _ _ (by decide), by decide, by decide⟩, ⟨by decide,
    ready_of_checks _ _ _ (by decide) (by decide) (by decide), apart_of_checks _ _ (by decide), by decide, by decide⟩,
    by decide, ready_of_checks _ _ _ (by decide) (by decide) (by decide), apart_of_checks _ _ (by decide), by decide,
    by decide⟩

/-- Pixels with samples `0 0 0`, `1 2 253` and `254 255 0`, of 256 levels. -/
theorem witness_FastLcdKernelsFollowTheFastLaw : ∀ sf ∈ [Format.lcdH, .lcdHR],
    let s := subpixels sf 256 [0, 0, 0, 1, 2, 253, 254, 255, 0] true
    Memory.wf s.mem = true ∧ s.Ready sf .rgb24 ∧ s.PixelsApart .rgb24 ∧
      (s.srcSpan sf).map (fun a => (s.byteAt a).toNat) = [0, 0, 0, 1, 2, 253, 254, 255, 0] := by
  simp only [List.forall_mem_cons, List.not_mem_nil, false_imp_iff, implies_true, and_true]
  refine ⟨⟨by decide, ready_of_checks _ _ _ (by decide) (by decide) (by decide), apart_of_checks _ _ (by decide),
    by decide⟩, by decide, ready_of_checks _ _ _ (by decide) (by decide) (by decide), apart_of_checks _ _ (by decide),
    by decide⟩

/-! ### Witnesses: rows that run no kernel -/

/-- A source format that is none of the sources. -/
theorem witness_UnsupportedSourceRows : Format.pal8.isSource = false ∧ Format.rsv15.isSource = false := by decide

/-- A mono source and no mono target; gray sources into 1 bit, and into gray of an invalid count. -/
theorem witness_UnsupportedTargetRows :
    Format.lcdH.isMonoTarget = false ∧ Format.mono.isColourTarget = false ∧ Format.gray.isColourTarget = false := by
  decide

/-- An LCD source; a gray one needs nothing. -/
theorem witness_InvalidCountRows : Format.lcdVR.isLcd = true := by decide

/-- An LCD source and an RGB32 target. -/
theorem witness_LcdMismatchRowsAreNoops : Format.lcdH.isLcd = true ∧ Format.rgb32 ≠ .rgb24 := by decide

/-! ### Witnesses: the machine -/

/-- V1 in progress and an IDLE block, each with no event, the unit's turn and a poll next; a word for `CTRL`. -/
theorem witness_StepRunsTheDecodedInstruction :
    (v1.phase = .busy ∧ decodeKey v1.ctx.shownKey = .ok v1Row ∧ v1.schedule = []) ∧
      (State.reset.phase = .idle ∧ State.reset.schedule = []) ∧
      (∀ s ∈ [v1, State.reset], ({ s with schedule := [.unit] } : State).schedule = .unit :: [] ∧
        ({ s with schedule := [.poll] } : State).schedule = .poll :: []) ∧
      (0xFFFFFFFF : Word).getLsbD 0 = true ∧
      ({ State.reset with schedule := [hostWr Config.params .ctrl 0xFFFFFFFF] } : State).schedule =
        hostWr State.reset.params .ctrl 0xFFFFFFFF :: [] :=
  ⟨⟨by decide, rfl, by decide⟩, ⟨rfl, rfl⟩, fun _ _ => ⟨rfl, rfl⟩, by decide, rfl⟩

/-- V1's command, before `START`. -/
theorem witness_StartThenUnitTurnIsTheBlitCommand :
    let s := { v1Scene with schedule := [hostWr Config.params .ctrl 1] }
    s.phase = .idle ∧ (1 : Word).getLsbD 0 = true ∧ s.schedule = [hostWr s.params .ctrl 1] ∧ s.srcBase ≠ 0 ∧
      s.tgtBase ≠ 0 ∧ s.srcWidth ≠ 0 ∧ s.srcHeight ≠ 0 ∧ s.clip = some ⟨0, 0, 2, 0, 6, 1, 2⟩ :=
  ⟨rfl, rfl, rfl, by decide, by decide, by decide, by decide, by decide⟩

/-- The parameters of State.reset, and the least and the greatest ones. -/
theorem witness_ResetMeetsTheInvariant :
    Config.params.legal = true ∧ Params.legal ⟨1, 1, 1, 0, []⟩ = true ∧ Params.legal ⟨32, 255, 255, 0, []⟩ = true := by
  decide

/-- V1 in progress meets the invariant, and its kernel runs. -/
theorem witness_EveryStepKeepsTheInvariant : v1.Inv ∧ step v1 = .next (after v1Row v1) :=
  ⟨inv_v1, rfl⟩

theorem witness_EveryCommandEnds : v1.Inv ∧ v1.phase = .busy ∧ v1.schedule = [] :=
  ⟨inv_v1, by decide, by decide⟩

/-- NB1 ends in error. -/
theorem witness_FailingCommandsWriteNoMemory :
    exec (.start 0) State.reset = .next (after (.start 0) State.reset) ∧
      (after (.start 0) State.reset).status.code ≠ 0 := ⟨rfl, by decide⟩

/-- V1's kernel ends with status 0. -/
theorem witness_CommandsChangeOnlyTheirOwnState :
    exec v1Row v1 = .next (after v1Row v1) ∧
      (after v1Row v1).status.code = 0 := ⟨rfl, by decide⟩

/-- GG3's step inserts both keys. -/
theorem witness_OnlyResetEmptiesTheCaches :
    step gg3 = .next (after (.g2gConv false) gg3) ∧ (∀ rest, gg3.schedule ≠ .reset :: rest) ∧
      (after (.g2gConv false) gg3).conv = [(128, 17)] :=
  ⟨rfl, (fun rest h => by rw [show gg3.schedule = [] by decide] at h; cases h), by decide⟩

theorem witness_ResetLeavesTheResetValues : Config.params.legal = true := by decide

/-- Reset while V1 is in progress, and while IDLE. -/
theorem witness_ResetInputResetsTheBlock :
    ({ v1 with schedule := [.reset] } : State).schedule = .reset :: [] ∧ State.reset.phase = .idle ∧
      v1.pendingTarget = [0x2000, 0x2000, 0x2000, 0x2000, 0x2000, 0x2000] ∧
      (v1.pendingTarget.filter (holdsByte v1.params)).length = 6 ∧ Memory.wf v1.mem = true ∧ v1.params.legal = true :=
  ⟨rfl, rfl, by decide, by decide, by decide, by decide⟩

/-- The highest address of the memory space. -/
theorem witness_HostReadsBackItsMemory :
    let s := { State.reset with schedule := [.memWrite 0xFFFFFFFF 0xAB, .memRead 0xFFFFFFFF] }
    Memory.wf s.mem = true ∧ s.phase = .idle ∧ 0xFFFFFFFF < 2 ^ s.params.addrW ∧
      s.schedule = .memWrite 0xFFFFFFFF 0xAB :: .memRead 0xFFFFFFFF :: [] :=
  ⟨rfl, rfl, by decide, rfl⟩

/-- The host writes the source of V1, and reads its target, while it is in progress. -/
theorem witness_DisturbedCommandsStillComplete :
    v1.phase = .busy ∧ 0x1000 < 2 ^ v1.params.addrW ∧ 0x2000 < 2 ^ v1.params.addrW ∧
      decodeKey v1.ctx.shownKey = .ok v1Row ∧ kernelOf v1Row = some kernelM2M ∧ kernelM2M.lookups v1 = .ok v1 ∧
      v1.Admitted .mono .mono ∧ Memory.wf v1.mem = true ∧ (0x1000 : Int) ∈ v1.srcSpan .mono ++ v1.tgtSpan .mono ∧
      (0x2000 : Int) ∈ v1.tgtSpan .mono :=
  ⟨by decide, by decide, by decide, rfl, rfl, rfl, by unfold State.Admitted; decide, by decide, by decide, by decide⟩

/-- GG1's command: every coverage and every target byte is in range. -/
theorem witness_InRangeCommandsDrawNothing :
    kernelOf (.g2gSame false) = some kernelG2gSame ∧ exec (.g2gSame false) gg1 = .next (after (.g2gSame false) gg1) ∧
      Memory.wf gg1.mem = true ∧ gg1.Ready .gray .gray ∧ gg1.srcGrays = gg1.tgtGrays ∧
      (∀ a ∈ gg1.srcSpan .gray, (gg1.byteAt a).toNat + 1 ≤ gg1.srcGrays.toNat) ∧
      ∀ a ∈ gg1.tgtSpan .gray, (gg1.byteAt a).toNat + 1 ≤ gg1.tgtGrays.toNat :=
  ⟨rfl, rfl, by decide, ready_of_checks _ _ _ (by decide) (by decide) (by decide), by decide, by decide, by decide⟩

end Sys2Proof.Tests
end

/-! The register port (spec 30_encoding.md R91) and `STATUS`, `CACHE_INFO` (10_state.md R23, R25): what a step does by
its turn, what a BUSY block does with a port access (R39), and when the fields of `STATUS` are written. -/

namespace Sys2Proof.Machine

/-! ### A step, by its turn -/

theorem step_of_turn_run {s u : State} {i : Instr} (h : turn s = .run i u) : step s = exec i u := by
  simp only [step, h]

theorem step_of_turn_done {s : State} {o : Host.Outcome State Fault Refusal} (h : turn s = .done o) : step s = o := by
  simp only [step, h]

theorem turn_portWrite {s : State} {addr bytes : Nat} {v : Word} {rest : List Event}
    (h : s.schedule = .portWrite addr bytes v :: rest) : turn s = (s.withSchedule rest).portWrite addr bytes v := by
  simp only [turn, h]

theorem turn_portRead {s : State} {addr bytes : Nat} {rest : List Event}
    (h : s.schedule = .portRead addr bytes :: rest) : turn s = .done ((s.withSchedule rest).portRead addr bytes) := by
  simp only [turn, h]

/-! ### Port accesses inside the register block -/

/-- The port answers every aligned 32-bit access of the block (30_encoding.md R91). -/
theorem portOffset_of_aligned (p : Params) {offset : Nat} (h4 : offset % 4 = 0) (hlt : offset < 0x100) :
    portOffset p (p.regBase + offset) 4 = some offset := by
  simp [portOffset, h4, hlt]

theorem State.writeReg_busy {s : State} (h : s.phase = .busy) (r : Reg) (v : Word) : s.writeReg r v = s := by
  simp only [State.writeReg, h]

/-- While BUSY an aligned write of the block does nothing, or is a `START`. -/
theorem State.portWrite_busy {s : State} (h : s.phase = .busy) {offset : Nat} (h4 : offset % 4 = 0)
    (hlt : offset < 0x100) (v : Word) :
    s.portWrite (s.params.regBase + offset) 4 v = .done (.next s) ∨
      ∃ w, s.portWrite (s.params.regBase + offset) 4 v = .run (.start w) s := by
  simp only [State.portWrite, portOffset_of_aligned s.params h4 hlt]
  cases Reg.ofOffset offset
  case ctrl =>
    rcases decodeCtrl_cases v with ⟨-, e⟩ | ⟨-, _, e⟩
    · exact .inr ⟨v.extractLsb' 1 31, by simp only [e]⟩
    · exact .inl (by simp only [e])
  all_goals exact .inl (by simp only [State.writeReg_busy h])

theorem State.portRead_of_aligned (s : State) {offset : Nat} (h4 : offset % 4 = 0) (hlt : offset < 0x100) :
    s.portRead (s.params.regBase + offset) 4 = .next (s.hostRead (Reg.ofOffset offset)) := by
  simp only [State.portRead, portOffset_of_aligned s.params h4 hlt]

theorem exec_start_busy {s : State} (h : s.phase = .busy) (w : BitVec 31) : exec (.start w) s = .next s :=
  execStart_busy h

/-- While BUSY a write of the block only uses up its event (10_state.md R39). -/
theorem step_portWrite_busy {s : State} {offset : Nat} {v : Word} {rest : List Event} (hp : s.phase = .busy)
    (h4 : offset % 4 = 0) (hlt : offset < 0x100)
    (hs : s.schedule = .portWrite (s.params.regBase + offset) 4 v :: rest) : step s = .next (s.withSchedule rest) := by
  have hp' : (s.withSchedule rest).phase = .busy := hp
  rcases State.portWrite_busy hp' h4 hlt v with e | ⟨w, e⟩
  · exact step_of_turn_done ((turn_portWrite hs).trans e)
  · exact (step_of_turn_run ((turn_portWrite hs).trans e)).trans (exec_start_busy hp' w)

theorem step_portRead {s : State} {offset : Nat} {rest : List Event} (h4 : offset % 4 = 0) (hlt : offset < 0x100)
    (hs : s.schedule = .portRead (s.params.regBase + offset) 4 :: rest) :
    step s = .next ((s.withSchedule rest).hostRead (Reg.ofOffset offset)) :=
  (step_of_turn_done (turn_portRead hs)).trans ((s.withSchedule rest).portRead_of_aligned h4 hlt)

/-- Settles O9, by R39 for each kind of access: a write of a BUSY block does nothing or is a `START`, which a BUSY block
ignores; a read touches only the host's data and the free values. -/
theorem registerWritesAreIgnoredWhileBusy : Obligations.RegisterWritesAreIgnoredWhileBusy := by
  unfold Obligations.RegisterWritesAreIgnoredWhileBusy
  intro s offset rest hp h4 hlt
  exact ⟨fun v hs => step_portWrite_busy hp h4 hlt hs, fun hs => ⟨_, step_portRead h4 hlt hs, rfl⟩,
    fun w => exec_start_busy hp w⟩

/-! ### The events of the host keep the command state and `STATUS` -/

section
variable (s : State)

@[simp] theorem State.writeReg_phase (r : Reg) (v : Word) : (s.writeReg r v).phase = s.phase := by
  unfold State.writeReg
  split <;> rfl

@[simp] theorem State.writeReg_status (r : Reg) (v : Word) : (s.writeReg r v).status = s.status := by
  unfold State.writeReg
  split <;> rfl

@[simp] theorem State.hostMemWrite_phase (a : Nat) (v : Byte) : (s.hostMemWrite a v).phase = s.phase := rfl

@[simp] theorem State.hostMemWrite_status (a : Nat) (v : Byte) : (s.hostMemWrite a v).status = s.status := rfl

@[simp] theorem State.hostMemRead_phase (a : Nat) : (s.hostMemRead a).phase = s.phase := by
  unfold State.hostMemRead
  split <;> rfl

@[simp] theorem State.hostMemRead_status (a : Nat) : (s.hostMemRead a).status = s.status := by
  unfold State.hostMemRead
  split <;> rfl

end

/-! ### The completion of a command -/

/-- The fields of `STATUS` are those of a completed command: `DONE`, and `NOOP` exactly when the status is 0 and no
kernel ran (10_state.md R23). -/
def Status.Complete (st : Status) : Prop := st.done = true ∧ (st.noop = true ↔ st.code = 0 ∧ st.path = 0)

theorem State.complete_finishOk (s : State) {noop : Bool} {path : BitVec 5} (h : noop = true ↔ path = 0) :
    (s.finishOk noop path).status.Complete := by
  simp [Status.Complete, h]

theorem State.complete_raiseStatus (s : State) {code : Int} (kind : ErrorKind) (h : BitVec.ofInt 8 code ≠ 0) :
    (s.raiseStatus code kind).status.Complete := by
  simpa [Status.Complete] using h

/-- No kernel has the id 0, which `PATH` shows when no kernel ran. -/
theorem kernelOf_id_ne_zero {i : Instr} {k : Kernel} (h : kernelOf i = some k) : k.id ≠ 0 := by
  cases i <;> cases h <;> decide

/-- `PATH` is the kernel of the row when the status is 0, and 0 when it is not or the row runs no kernel. -/
def Status.PathOf (st : Status) (i : Instr) : Prop :=
  st.path = if st.code = 0 then (kernelOf i).elim 0 Kernel.id else 0

theorem State.pathOf_raiseStatus (s : State) {code : Int} (kind : ErrorKind) (h : BitVec.ofInt 8 code ≠ 0) (i : Instr) :
    (s.raiseStatus code kind).status.PathOf i := by
  simp only [Status.PathOf, State.raiseStatus_status]
  exact (if_neg h).symm

theorem State.pathOf_finishOk (s : State) (noop : Bool) (i : Instr) :
    (s.finishOk noop ((kernelOf i).elim 0 Kernel.id)).status.PathOf i := by
  simp only [Status.PathOf, State.finishOk_status, if_true]

/-- An instruction that a BUSY block runs is a `START`, which it ignores, or completes the command. -/
theorem exec_busy_cases {i : Instr} {s t : State} (hp : s.phase = .busy) (h : exec i s = .next t) :
    t = s ∨ (t.phase = .idle ∧ t.status.Complete ∧ t.status.PathOf i) := by
  have raised : ∀ (u : State) (e : Int) (kind : ErrorKind), BitVec.ofInt 8 e ≠ 0 → t = u.raiseStatus e kind →
      t.phase = .idle ∧ t.status.Complete ∧ t.status.PathOf i := by
    rintro u e kind he rfl
    exact ⟨rfl, u.complete_raiseStatus kind he, u.pathOf_raiseStatus kind he i⟩
  rcases exec_next h with ⟨k, s1, -, -, e⟩ | ⟨k, s1, hk, -, -, rfl⟩ | ⟨w, -, e⟩ | ⟨hk, e | e | e | rfl⟩
  · exact .inr (raised _ _ _ (by decide) e)
  · have path := (s1.withCanvas (k.composite s1)).pathOf_finishOk false i
    rw [hk] at path
    exact .inr ⟨rfl, State.complete_finishOk _ (by simpa using kernelOf_id_ne_zero hk), path⟩
  · rw [execStart_busy hp] at e
    exact .inl (Host.Outcome.next.inj e).symm
  · exact .inr (raised _ _ _ (by decide) e)
  · exact .inr (raised _ _ _ (by decide) e)
  · exact .inr (raised _ _ _ (by decide) e)
  · have path := s.pathOf_finishOk true i
    rw [hk] at path
    exact .inr ⟨rfl, s.complete_finishOk (by simp), path⟩

/-- `START` of an IDLE block begins a command, clearing `DONE` alone, or completes it with no kernel run. -/
theorem exec_start_idle_cases {w : BitVec 31} {s t : State} (hp : s.phase = .idle)
    (h : exec (.start w) s = .next t) :
    (t.phase = .busy ∧ t.status = { s.status with done := false }) ∨
      (t.phase = .idle ∧ t.status.Complete ∧ t.status.path = 0) := by
  rw [exec_start, execStart_idle hp] at h
  obtain rfl := Host.Outcome.next.inj h
  rcases s.started.frontEnd_cases with ⟨-, e⟩ | ⟨-, -, e⟩ | ⟨c, -, -, -, e⟩ <;> rw [e]
  · exact .inr ⟨rfl, State.complete_raiseStatus _ _ (by decide), rfl⟩
  · exact .inr ⟨rfl, State.complete_finishOk _ (by simp), rfl⟩
  · exact .inl ⟨rfl, rfl⟩

/-- When `STATUS` and the command state can change: never, by `START` of an IDLE block, or by the unit's turn that
completes the command (10_state.md R23), unless the step is a reset. -/
theorem step_status_cases {s t : State} (h : step s = .next t) (hr : ∀ rest, s.schedule ≠ .reset :: rest) :
    (t.phase = s.phase ∧ t.status = s.status) ∨
      (s.phase = .idle ∧ ∃ w l, exec (.start w) (s.withSchedule l) = .next t) ∨
      (s.phase = .busy ∧ t.phase = .idle ∧ t.status.Complete ∧
        ∃ i, decodeKey s.ctx.shownKey = .ok i ∧ t.status.PathOf i) := by
  rcases step_cases h with ⟨i, l, d, n, hp, hi, e⟩ | ⟨w, l, -, e⟩ | ⟨l, d, n, rfl⟩ | ⟨l, r, v, rfl⟩ |
    ⟨l, a, v, -, rfl⟩ | ⟨l, a, -, rfl⟩ | ⟨l, hl, -⟩
  · rcases exec_busy_cases (s := s.aside l d n) hp e with rfl | ⟨ht, hc, path⟩
    · exact .inl ⟨rfl, rfl⟩
    · exact .inr (.inr ⟨hp, ht, hc, i, hi, path⟩)
  · cases hp : s.phase with
    | idle => exact .inr (.inl ⟨rfl, w, l, e⟩)
    | busy =>
      rw [exec_start_busy (s := s.withSchedule l) hp] at e
      obtain rfl := Host.Outcome.next.inj e
      exact .inl ⟨hp, rfl⟩
  · exact .inl ⟨rfl, rfl⟩
  · exact .inl ⟨by simp, by simp⟩
  · exact .inl ⟨by simp, by simp⟩
  · exact .inl ⟨by simp, by simp⟩
  · exact absurd hl (hr l)

/-- A step that leaves the block BUSY keeps `STATUS`, but for `DONE` when it starts the command. -/
theorem step_status_busy {s t : State} (h : step s = .next t) (hr : ∀ rest, s.schedule ≠ .reset :: rest)
    (ht : t.phase = .busy) : t.status = if s.phase = .busy then s.status else { s.status with done := false } := by
  rcases step_status_cases h hr with ⟨hp, hst⟩ | ⟨hp, w, l, e⟩ | ⟨-, hi, -⟩
  · rw [if_pos (hp.symm.trans ht), hst]
  · rcases exec_start_idle_cases (s := s.withSchedule l) hp e with ⟨-, hst⟩ | ⟨hi, -⟩
    · rw [hp, if_neg (by decide)]
      exact hst
    · rw [hi] at ht
      cases ht
  · rw [hi] at ht
    cases ht

/-- A step that leaves the block IDLE keeps `STATUS` of an IDLE block, or completes a command: by `START`, with no
kernel run, or by the unit's turn. -/
theorem step_status_idle {s t : State} (h : step s = .next t) (hr : ∀ rest, s.schedule ≠ .reset :: rest)
    (ht : t.phase = .idle) :
    (s.phase = .idle ∧ t.status = s.status) ∨
      (t.status.Complete ∧
        ((s.phase = .idle ∧ t.status.path = 0 ∧ ∃ w l, exec (.start w) (s.withSchedule l) = .next t) ∨
          (s.phase = .busy ∧ ∃ i, decodeKey s.ctx.shownKey = .ok i ∧ t.status.PathOf i))) := by
  rcases step_status_cases h hr with ⟨hp, hst⟩ | ⟨hp, w, l, e⟩ | ⟨hp, -, hc, hi⟩
  · exact .inl ⟨hp.symm.trans ht, hst⟩
  · rcases exec_start_idle_cases (s := s.withSchedule l) hp e with ⟨hb, -⟩ | ⟨-, hc, path⟩
    · rw [hb] at ht
      cases ht
    · exact .inr ⟨hc, .inl ⟨hp, path, w, l, e⟩⟩
  · exact .inr ⟨hc, .inr ⟨hp, hi⟩⟩

/-! ### The fields of the words that reads of `STATUS` and `CACHE_INFO` return -/

/-- A slice of `STATUS`, with the fields' widths in view: the library's lemmas on `++` then apply. -/
theorem State.statusWord_extractLsb' (s : State) (start len : Nat) : s.statusWord.extractLsb' start len =
    (0#3 ++ s.status.path ++ 0#4 ++ s.status.kind.code ++ s.status.code ++ 0#5 ++ BitVec.ofBool s.status.noop ++
      BitVec.ofBool s.status.done ++ BitVec.ofBool (s.phase == .busy)).extractLsb' start len := rfl

/-- A bit of `STATUS`. -/
theorem State.statusWord_getLsbD (s : State) (i : Nat) : s.statusWord.getLsbD i =
    (0#3 ++ s.status.path ++ 0#4 ++ s.status.kind.code ++ s.status.code ++ 0#5 ++ BitVec.ofBool s.status.noop ++
      BitVec.ofBool s.status.done ++ BitVec.ofBool (s.phase == .busy)).getLsbD i := rfl

/-- The layout of `STATUS` (10_state.md R23). -/
theorem State.statusWord_fields (s : State) :
    (s.statusWord.getLsbD 0 = true ↔ s.phase = .busy) ∧ s.statusWord.getLsbD 1 = s.status.done ∧
    s.statusWord.getLsbD 2 = s.status.noop ∧ s.statusWord.extractLsb' 3 5 = 0 ∧
    s.statusWord.extractLsb' 8 8 = s.status.code ∧ s.statusWord.extractLsb' 16 4 = s.status.kind.code ∧
    s.statusWord.extractLsb' 20 4 = 0 ∧ s.statusWord.extractLsb' 24 5 = s.status.path ∧
    s.statusWord.extractLsb' 29 3 = 0 := by
  refine ⟨?_, ?_, ?_, ?_, ?_, ?_, ?_, ?_, ?_⟩
  case refine_1 | refine_2 | refine_3 =>
    rw [State.statusWord_getLsbD]
    simp only [BitVec.getLsbD_append]
    simp
  all_goals
    rw [State.statusWord_extractLsb']
    simp (disch := decide) only [BitVec.extractLsb'_append_eq_of_le, BitVec.extractLsb'_append_eq_of_add_le]
    simp

/-- A slice of `CACHE_INFO`, with the fields' widths in view. -/
theorem cacheInfoWord_extractLsb' (p : Params) (sat : List Count) (conv : List (Count × Count)) (start len : Nat) :
    (cacheInfoWord p sat conv).extractLsb' start len =
      (BitVec.ofNat 8 p.convCap ++ BitVec.ofNat 8 p.satCap ++ BitVec.ofNat 8 conv.length ++
        BitVec.ofNat 8 sat.length).extractLsb' start len := rfl

/-- The layout of `CACHE_INFO` (10_state.md R25). -/
theorem cacheInfoWord_fields (p : Params) (sat : List Count) (conv : List (Count × Count)) :
    (cacheInfoWord p sat conv).extractLsb' 0 8 = BitVec.ofNat 8 sat.length ∧
      (cacheInfoWord p sat conv).extractLsb' 8 8 = BitVec.ofNat 8 conv.length ∧
      (cacheInfoWord p sat conv).extractLsb' 16 8 = BitVec.ofNat 8 p.satCap ∧
      (cacheInfoWord p sat conv).extractLsb' 24 8 = BitVec.ofNat 8 p.convCap := by
  simp only [cacheInfoWord_extractLsb']
  simp (disch := decide) only [BitVec.extractLsb'_append_eq_of_le, BitVec.extractLsb'_append_eq_of_add_le]
  simp

/-! ### Their values in a machine that meets the invariant -/

/-- The caps are 8-bit numbers (00_scope.md R3). -/
theorem Params.caps_lt_of_legal {p : Params} (h : p.legal = true) : p.satCap < 2 ^ 8 ∧ p.convCap < 2 ^ 8 := by
  simp only [Params.legal, Bool.and_eq_true, decide_eq_true_eq] at h
  omega

/-- Under the invariant the list lengths and the caps fit their fields of `CACHE_INFO`. -/
theorem State.Inv.cacheInfo_fields {s : State} (h : s.Inv) :
    ((s.readReg .cacheInfo).extractLsb' 0 8).toNat = s.sat.length ∧
    ((s.readReg .cacheInfo).extractLsb' 8 8).toNat = s.conv.length ∧
    ((s.readReg .cacheInfo).extractLsb' 16 8).toNat = s.params.satCap ∧
    ((s.readReg .cacheInfo).extractLsb' 24 8).toNat = s.params.convCap := by
  obtain ⟨hsat, hconv⟩ := Params.caps_lt_of_legal h.params
  obtain ⟨e0, e8, e16, e24⟩ := cacheInfoWord_fields s.params s.sat s.conv
  simp only [State.readReg, e0, e8, e16, e24, BitVec.toNat_ofNat]
  exact ⟨Nat.mod_eq_of_lt (h.satCap.trans_lt hsat), Nat.mod_eq_of_lt (h.convCap.trans_lt hconv),
    Nat.mod_eq_of_lt hsat, Nat.mod_eq_of_lt hconv⟩

/-- The rows of 60_exceptions.md R270, by `KIND`: `CODE`, and the bound of `PATH`. -/
theorem Status.wf_rows {st : Status} (h : st.wf = true) :
    st.kind.code.toNat = 0 ∧ st.code = 0 ∧ st.path.toNat ≤ 24 ∨
      (st.kind.code.toNat = 1 ∨ st.kind.code.toNat = 2) ∧ st.code = 0xFF ∧ st.path = 0 ∨
      st.kind.code.toNat = 3 ∧ st.code = 0xFE ∧ st.path = 0 ∨
      st.kind.code.toNat = 4 ∧ st.code = 0xFD ∧ st.path = 0 := by
  cases hk : st.kind <;>
    simp only [Status.wf, hk, Bool.and_eq_true, beq_iff_eq, decide_eq_true_eq, Bool.not_eq_true'] at h
  case none =>
    obtain ⟨⟨hcode, hpath⟩, -⟩ := h
    exact .inl ⟨rfl, hcode, hpath⟩
  all_goals obtain ⟨⟨hcode, -⟩, hpath⟩ := h
  case argument => exact .inr (.inl ⟨.inl rfl, hcode, hpath⟩)
  case targetDepth => exact .inr (.inl ⟨.inr rfl, hcode, hpath⟩)
  case sourceDepth => exact .inr (.inr (.inl ⟨rfl, hcode, hpath⟩))
  case tableCache => exact .inr (.inr (.inr ⟨rfl, hcode, hpath⟩))

/-- Only the kind of a command that ended well has `NOOP`, and then no kernel ran. -/
theorem Status.wf_noop {st : Status} (h : st.wf = true) (hn : st.noop = true) : st.code = 0 ∧ st.path = 0 := by
  cases hk : st.kind
  case none =>
    simp only [Status.wf, hk, hn, Bool.and_eq_true, beq_iff_eq, Bool.not_true, Bool.false_or] at h
    obtain ⟨⟨hcode, -⟩, hpath⟩ := h
    exact ⟨hcode, hpath⟩
  all_goals simp [Status.wf, hk, hn] at h

/-- Settles O13: the writing of `STATUS` by `step_status_cases`, the layouts by `statusWord_fields` and
`cacheInfoWord_fields`, the values by the invariant. -/
theorem statusAndCacheInfoHaveTheirFields : Obligations.StatusAndCacheInfoHaveTheirFields := by
  unfold Obligations.StatusAndCacheInfoHaveTheirFields
  refine ⟨fun s t h hr => ⟨step_status_busy h hr, fun ht => ?_⟩, State.statusWord_fields,
    fun s h => ⟨Status.wf_rows h.status, Status.wf_noop h.status, h.cacheInfo_fields⟩⟩
  rcases step_status_idle h hr ht with hkept | ⟨⟨hdone, hnoop⟩, hstart | hturn⟩
  · exact .inl hkept
  · obtain ⟨hp, path, hex⟩ := hstart
    exact .inr ⟨hdone, hnoop, fun _ => ⟨path, hex⟩, fun hbusy => (nomatch hp.symm.trans hbusy)⟩
  · obtain ⟨hp, i, hi, path⟩ := hturn
    exact .inr ⟨hdone, hnoop, fun hidle => (nomatch hp.symm.trans hidle), fun _ => ⟨i, hi, path⟩⟩

end Sys2Proof.Machine

/-! The formed key (spec 30_encoding.md R102, R103): its fields, the row it selects, and the step that runs that row
(45_dispatch.md R240, R242, R248). -/

namespace Sys2Proof

/-! ### The row of a key is well formed exactly when two counts can form its count bits -/

section
variable (tf : Format) (geq tg2 s256 sg2 : Bool)

/-- A valid source count goes to the rows of the target format, which fix `S256` for a colour target, and `TG2` and
`GEQ` for a gray one. -/
theorem wellFormed_grayBranch : (grayBranch tf geq tg2 s256 sg2).wellFormed = formable geq tg2 s256 sg2 := by
  cases sg2
  case false => rfl
  case true =>
    cases tf
    case gray => cases tg2 <;> cases geq <;> rfl
    case rgb555 | rgb565 | rgb24 | rgb32 => cases s256 <;> rfl
    all_goals rfl

/-- In the other branches only the LCD rows for RGB24 depend on the count bits. -/
theorem wellFormed_dispatchRow (sf : Format) :
    (dispatchRow sf tf geq tg2 s256 sg2).wellFormed = formable geq tg2 s256 sg2 := by
  cases sf
  case gray => exact wellFormed_grayBranch ..
  case mono => cases tf <;> rfl
  case lcdH | lcdHR | lcdV | lcdVR =>
    cases tf
    case rgb24 => cases sg2 <;> cases s256 <;> rfl
    all_goals rfl
  all_goals rfl

end

/-- The decoder reads a key exactly when its bits 15:12 are 0 (30_encoding.md R103). -/
theorem decodeKey_isOk_iff (k : Key) : (∃ i, decodeKey k = .ok i) ↔ k.extractLsb' 12 4 = 0 := by
  unfold decodeKey
  split_ifs with h
  · exact ⟨fun _ => h, fun _ => ⟨_, rfl⟩⟩
  · exact ⟨nofun, fun h0 => absurd h0 h⟩

end Sys2Proof

namespace Sys2Proof.Machine

/-! ### The count bits of two counts -/

theorem validCount_eq_true_iff (g : Count) : validCount g = true ↔ 2 ≤ g.toNat ∧ g.toNat ≤ 256 := by
  simp [validCount]

theorem count_beq_iff (g h : Count) : (g == h) = true ↔ g.toNat = h.toNat := by
  rw [beq_iff_eq, BitVec.toNat_inj]

/-- A count of 256 is valid, and equal counts are valid together: what R103 says of the keys that are formed. -/
theorem formable_counts (gs gt : Count) :
    formable (gs == gt) (validCount gt) (gs == 256#9) (validCount gs) = true := by
  have fast : fastNeedsValid (gs == 256#9) (validCount gs) = true := by
    by_cases h : gs = 256#9
    · subst h
      decide
    · simp [fastNeedsValid, h]
  have same : equalNeedsSame (gs == gt) (validCount gt) (validCount gs) = true := by
    by_cases h : gs = gt <;> simp [equalNeedsSame, h]
  rw [formable, fast, same, Bool.and_self]

/-! ### The formed key -/

section
variable (s : State)

theorem State.formKey_srcFormat : s.formKey.extractLsb' 0 4 = s.regs.srcMode.extractLsb' 0 4 :=
  (keyOf_sf ..).trans (Format.code_ofCode _)

theorem State.formKey_tgtFormat : s.formKey.extractLsb' 4 4 = s.regs.tgtMode.extractLsb' 0 4 :=
  (keyOf_tf ..).trans (Format.code_ofCode _)

theorem State.formKey_sg2 : s.formKey.getLsbD 8 = validCount s.srcGrays := keyOf_sg2 ..

theorem State.formKey_s256 : s.formKey.getLsbD 9 = (s.srcGrays == 256#9) := keyOf_s256 ..

theorem State.formKey_tg2 : s.formKey.getLsbD 10 = validCount s.tgtGrays := keyOf_tg2 ..

theorem State.formKey_geq : s.formKey.getLsbD 11 = (s.srcGrays == s.tgtGrays) := keyOf_geq ..

theorem State.formKey_reserved : s.formKey.extractLsb' 12 4 = 0 := keyOf_reserved ..

/-- A formed key decodes to an instruction that some command forms. -/
theorem State.decodeKey_formKey_wellFormed : ∃ i, decodeKey s.formKey = .ok i ∧ i.wellFormed = true :=
  ⟨_, s.decodeKey_formKey, (wellFormed_dispatchRow ..).trans (formable_counts ..)⟩

end

/-- Settles O3: each field of the key is read back from the fields it was made of. -/
theorem keyFieldsFollowTheRegisters : Obligations.KeyFieldsFollowTheRegisters := by
  unfold Obligations.KeyFieldsFollowTheRegisters
  intro s
  rw [s.formKey_sg2, s.formKey_s256, s.formKey_tg2, s.formKey_geq]
  exact ⟨s.formKey_srcFormat, s.formKey_tgtFormat, validCount_eq_true_iff _, count_beq_iff _ _,
    validCount_eq_true_iff _, count_beq_iff _ _, s.formKey_reserved⟩

/-- Settles O4: a row is well formed by its count bits alone, and two counts form only such bits. -/
theorem reservedKeysAreNeverFormed : Obligations.ReservedKeysAreNeverFormed := by
  unfold Obligations.ReservedKeysAreNeverFormed
  refine ⟨fun s => ⟨s.formKey_reserved, fun h => ?_, s.decodeKey_formKey_wellFormed⟩, decodeKey_isOk_iff⟩
  rw [s.formKey_s256, count_beq_iff] at h
  rw [s.formKey_sg2, validCount_eq_true_iff, h]
  decide

/-! ### The turn at each event that can run an instruction -/

theorem State.unitTurn_idle {s : State} (h : s.phase = .idle) : s.unitTurn = .done (.next s) := by
  simp only [State.unitTurn, h]

theorem State.unitTurn_busy {s : State} {i : Instr} (h : s.phase = .busy) (hi : decodeKey s.ctx.shownKey = .ok i) :
    s.unitTurn = .run i s := by
  simp only [State.unitTurn, State.pendingInstr, h, hi]

theorem turn_nil {s : State} (h : s.schedule = []) : turn s = s.unitTurn := by
  simp only [turn, h]

theorem turn_unit {s : State} {rest : List Event} (h : s.schedule = .unit :: rest) :
    turn s = (s.withSchedule rest).unitTurn := by
  simp only [turn, h]

theorem turn_poll_busy {s : State} {rest : List Event} (hp : s.phase = .busy) (h : s.schedule = .poll :: rest) :
    turn s = (s.hostRead .status).unitTurn := by
  simp only [turn, h, hp]

theorem turn_poll_idle {s : State} {rest : List Event} (hp : s.phase = .idle) (h : s.schedule = .poll :: rest) :
    turn s = .done (.next ((s.withSchedule rest).hostRead .status)) := by
  simp only [turn, h, hp]

/-- A read of `STATUS` is never free: it changes the host's data alone (10_state.md R35). -/
theorem State.hostRead_status (s : State) : s.hostRead .status = { s with portData := s.statusWord } := by
  have fixed : s.readIsFree .status = false := Bool.and_false _
  simp [State.hostRead, State.readPort, fixed, State.readReg]

/-- A word with bit 0 set, written to `CTRL`, is `START` with the word's upper bits (10_state.md R22). -/
theorem State.portWrite_start (s : State) {w : Word} (h : w.getLsbD 0 = true) :
    s.portWrite (s.params.regBase + Reg.ctrl.offset) 4 w = .run (.start (w.extractLsb' 1 31)) s := by
  have ctrl : portOffset s.params (s.params.regBase + Reg.ctrl.offset) 4 = some 0 :=
    portOffset_of_aligned s.params rfl (by decide)
  have start : decodeCtrl w = .ok (.start (w.extractLsb' 1 31)) := if_pos h
  simp only [State.portWrite, ctrl, Reg.ofOffset, start]

/-! ### The step at each of these events -/

section
variable {s : State} {i : Instr} {rest : List Event}

/-- What a BUSY unit's turn does to a step, at any state with the key of `s`. -/
theorem step_of_unitTurn_busy {u : State} (hp : u.phase = .busy) (hi : decodeKey u.ctx.shownKey = .ok i)
    (h : turn s = u.unitTurn) : step s = exec i u :=
  step_of_turn_run (h.trans (State.unitTurn_busy hp hi))

theorem step_of_unitTurn_idle {u : State} (hp : u.phase = .idle) (h : turn s = u.unitTurn) : step s = .next u :=
  step_of_turn_done (h.trans (State.unitTurn_idle hp))

theorem step_poll_busy (hp : s.phase = .busy) (hi : decodeKey s.ctx.shownKey = .ok i)
    (hs : s.schedule = .poll :: rest) : step s = exec i { s with portData := s.statusWord } :=
  step_of_unitTurn_busy hp hi ((turn_poll_busy hp hs).trans (congrArg State.unitTurn s.hostRead_status))

theorem step_poll_idle (hp : s.phase = .idle) (hs : s.schedule = .poll :: rest) :
    step s = .next { s with schedule := rest, portData := s.statusWord } := by
  rw [step_of_turn_done (turn_poll_idle hp hs), State.hostRead_status]
  rfl

theorem step_start {w : Word} (hw : w.getLsbD 0 = true) (hs : s.schedule = hostWr s.params .ctrl w :: rest) :
    step s = exec (.start (w.extractLsb' 1 31)) (s.withSchedule rest) :=
  step_of_turn_run ((turn_portWrite hs).trans ((s.withSchedule rest).portWrite_start hw))

end

/-- Settles O48: the unit's turn and the poll, of a BUSY block and of an IDLE one, and `START`. -/
theorem stepRunsTheDecodedInstruction : Obligations.StepRunsTheDecodedInstruction := by
  unfold Obligations.StepRunsTheDecodedInstruction
  refine ⟨fun s i hp hi => ⟨fun hs => ?_, fun rest hs => ?_, fun rest hs => step_poll_busy hp hi hs⟩,
    fun s hp => ⟨fun hs => ?_, fun rest hs => ?_, fun rest hs => step_poll_idle hp hs⟩,
    fun s w rest hw hs => step_start hw hs⟩
  · exact step_of_unitTurn_busy hp hi (turn_nil hs)
  · exact step_of_unitTurn_busy (u := s.withSchedule rest) hp hi (turn_unit hs)
  · exact step_of_unitTurn_idle hp (turn_nil hs)
  · exact step_of_unitTurn_idle (u := s.withSchedule rest) hp (turn_unit hs)

end Sys2Proof.Machine

/-! The clipping unit in closed form (spec 40_clip.md R121 to R128): the extents of each format, when nothing is drawn,
and what is drawn otherwise. -/

namespace Sys2Proof.Machine

/-! ### Addressable and rounded extents -/

/-- `ceil_k(v)` is the least multiple of `k` that is not below `v` (00_scope.md R6). -/
theorem ceilTo_bounds {k : Nat} (hk : 0 < k) (v : Nat) : k ∣ ceilTo k v ∧ v ≤ ceilTo k v ∧ ceilTo k v < v + k := by
  have parts : ceilTo k v + (v + k - 1) % k = v + k - 1 := Nat.div_add_mod' (v + k - 1) k
  have rest : (v + k - 1) % k < k := Nat.mod_lt _ hk
  exact ⟨Nat.dvd_mul_left _ _, by omega, by omega⟩

theorem div_three_bounds (n : Nat) : 3 * (n / 3) ≤ n ∧ n < 3 * (n / 3) + 3 := by omega

theorem addressableWidth_of_lcdHorizontal {f : Format} (h : f = .lcdH ∨ f = .lcdHR) (n : Nat) :
    addressableWidth f n = n / 3 := by
  rcases h with rfl | rfl <;> rfl

theorem addressableWidth_of_stored {f : Format} (hm : f ≠ .mono) (hp : f ≠ .pal4) (hh : f ≠ .lcdH) (hr : f ≠ .lcdHR)
    (n : Nat) : addressableWidth f n = n := by
  fun_cases addressableWidth f n
  case case1 => exact absurd rfl hm
  case case2 => exact absurd rfl hp
  case case3 => exact absurd rfl hh
  case case4 => exact absurd rfl hr
  case case5 => rfl

theorem addressableHeight_of_lcdVertical {f : Format} (h : f = .lcdV ∨ f = .lcdVR) (n : Nat) :
    addressableHeight f n = n / 3 := by
  rcases h with rfl | rfl <;> rfl

theorem addressableHeight_of_stored {f : Format} (hv : f ≠ .lcdV) (hr : f ≠ .lcdVR) (n : Nat) :
    addressableHeight f n = n := by
  fun_cases addressableHeight f n
  case case1 => exact absurd rfl hv
  case case2 => exact absurd rfl hr
  case case3 => rfl

theorem roundedWidth_of_packed {f : Format} (h : f = .mono ∨ f = .pal4) (n : Nat) :
    roundedWidth f n = addressableWidth f n := by
  rcases h with rfl | rfl <;> rfl

theorem roundedWidth_of_unpacked {f : Format} (hm : f ≠ .mono) (hp : f ≠ .pal4) (n : Nat) : roundedWidth f n = n := by
  fun_cases roundedWidth f n
  case case1 => exact absurd rfl hm
  case case2 => exact absurd rfl hp
  case case3 => rfl

/-! ### The clip -/

/-- No pixel of a rectangle of `aw` by `ah` at `(x, y)` lies on the target of `tw` by `th` (R122, R123). -/
def DrawsNothing (aw ah tw th : Nat) (x y : Int) : Prop :=
  aw = 0 ∨ ah = 0 ∨ x + aw ≤ 0 ∨ (tw : Int) ≤ x ∨ y + ah ≤ 0 ∨ (th : Int) ≤ y ∨ tw = 0 ∨ th = 0

/-- The clip of a rectangle of `aw` by `ah` at `(x, y)` on the extent `rtw` by `th` (R124 to R128). -/
def Clip.ofRect (aw ah rtw th : Nat) (x y : Int) : Clip :=
  { readX := max (-x) 0
    readY := max (-y) 0
    writeX := max x 0
    writeY := max y 0
    visW := min (x + aw) rtw - max x 0
    visH := min (y + ah) th - max y 0
    rightClip := max (x + aw - rtw) 0 }

section
variable {sf tf : Format} {sw sh tw th : Nat} {x y : Int}

theorem clip_of_drawsNothing (h : DrawsNothing (addressableWidth sf sw) (addressableHeight sf sh) tw th x y) :
    clip sf tf sw sh tw th x y = none := by
  unfold DrawsNothing at h
  fun_cases clip sf tf sw sh tw th x y
  case case1 => rfl
  case case2 => rfl
  case case3 empty outside => omega

theorem clip_of_draws (h : ¬ DrawsNothing (addressableWidth sf sw) (addressableHeight sf sh) tw th x y) :
    clip sf tf sw sh tw th x y =
      some (.ofRect (addressableWidth sf sw) (addressableHeight sf sh) (roundedWidth tf tw) th x y) := by
  unfold DrawsNothing at h
  fun_cases clip sf tf sw sh tw th x y
  case case1 empty => omega
  case case2 outside => omega
  case case3 =>
    simp only [Clip.ofRect, Option.some.injEq, Clip.mk.injEq]
    omega

/-- A clip draws nothing exactly for a rectangle off the target. -/
theorem clip_eq_none_iff : clip sf tf sw sh tw th x y = none ↔
    DrawsNothing (addressableWidth sf sw) (addressableHeight sf sh) tw th x y := by
  refine ⟨fun hc => ?_, clip_of_drawsNothing⟩
  by_contra draws
  simp [clip_of_draws draws] at hc

/-- What a clip gives is the closed form. -/
theorem clip_eq_some {c : Clip} (hc : clip sf tf sw sh tw th x y = some c) :
    c = .ofRect (addressableWidth sf sw) (addressableHeight sf sh) (roundedWidth tf tw) th x y := by
  have draws : ¬ DrawsNothing (addressableWidth sf sw) (addressableHeight sf sh) tw th x y := fun nothing => by
    simp [clip_of_drawsNothing nothing] at hc
  exact Option.some.inj (hc.symm.trans (clip_of_draws draws))

end

/-- Settles O19: the extents format by format, and the clip by its closed form. -/
theorem clipFollowsTheRules : Obligations.ClipFollowsTheRules := by
  unfold Obligations.ClipFollowsTheRules
  refine ⟨fun f n => ?_, fun sf tf sw sh tw th x y => ⟨clip_eq_none_iff, fun c hc => ?_⟩⟩
  · refine ⟨?mono, ?pal4, fun h => ?lcdH, fun hm hp hh hr => addressableWidth_of_stored hm hp hh hr n, fun h => ?lcdV,
      fun hv hr => addressableHeight_of_stored hv hr n, fun h => roundedWidth_of_packed h n,
      fun hm hp => roundedWidth_of_unpacked hm hp n⟩
    case mono => rintro rfl; exact ceilTo_bounds (by decide) n
    case pal4 => rintro rfl; exact ceilTo_bounds (by decide) n
    case lcdH => rw [addressableWidth_of_lcdHorizontal h]; exact div_three_bounds n
    case lcdV => rw [addressableHeight_of_lcdVertical h]; exact div_three_bounds n
  · obtain rfl := clip_eq_some hc
    exact ⟨rfl, rfl, rfl, rfl, rfl, rfl, rfl⟩

end Sys2Proof.Machine

/-! The mono kernels (spec 41_mono.md R140 to R149). A ready command runs its pixel loop on the source bytes it began
with, and a mono pixel puts a value fixed by them and the registers into its part of a byte (a bit, a nibble, the byte),
or leaves it. So each part holds after the loop what the last pixel to ink it put there. -/

namespace Sys2Proof.Machine

/-! ### Commands that only paint -/

/-- The kernel looks up no table and draws no free value. -/
structure Kernel.OnlyPaints (k : Kernel) : Prop where
  noTables : k.tables = .none
  noDraw : ∀ s c p, k.act s c p ≠ .any

/-- What kernel `k` leaves of a ready command when it only paints. -/
def State.painted (s : State) (k : Kernel) : State := { s.completed k.id with mem := (k.paint s s.canvas).mem }

section
variable {i : Instr} {k : Kernel} {s : State}

theorem exec_of_onlyPaints (hi : kernelOf i = some k) (hk : k.OnlyPaints) (hr : s.Ready k.sf k.tf) :
    exec i s = .next (s.painted k) := by
  have hl : k.lookups s = .ok s := by simp only [Kernel.lookups, hk.noTables]
  rw [exec_of_ready hi hl hr, Kernel.draws_paint k s s.canvas fun d p _ => hk.noDraw s d p]
  rfl

/-- The canvas a second run of the kernel would begin with. -/
theorem State.canvas_painted (hk : k.OnlyPaints) : (s.painted k).canvas = k.paint s s.canvas :=
  congrArg (Canvas.mk _) (Kernel.draws_paint k s s.canvas fun d p _ => hk.noDraw s d p).symm

theorem Kernel.wf_paint {c : Canvas} (hwf : Memory.wf c.mem = true) : Memory.wf (k.paint s c).mem = true :=
  Kernel.paint_induction (P := fun d => Memory.wf d.mem = true) k s c hwf
    fun d p _ hd => Kernel.wf_paintPixel k s d p hd

theorem State.read_painted_other (hr : s.Ready k.sf k.tf) (n : Nat) (hn : (n : Int) ∉ s.tgtSpan k.tf) :
    Memory.read (s.painted k).mem n = Memory.read s.mem n :=
  Kernel.read_paint_other k s s.canvas n hr.nonneg_tgt hn

theorem Kernel.paintPixel_of_put {c : Canvas} {p : Pixel} {bytes : List Byte} (h : k.act s c p = .put bytes) :
    k.paintPixel s c p = c.putAll ((s.tgtBytes k.tf p).zip bytes) := by rw [Kernel.paintPixel, h]

theorem Kernel.paintPixel_of_skip {c : Canvas} {p : Pixel} (h : k.act s c p = .skip) : k.paintPixel s c p = c := by
  rw [Kernel.paintPixel, h]

/-! ### The loop leaves the source alone -/

/-- The canvas holds the source bytes of a command as the command began. -/
def State.SourceKept (s : State) (sf : Format) (c : Canvas) : Prop := ∀ a ∈ s.srcSpan sf, c.byte a = s.byteAt a

theorem State.sourceKept_canvas (s : State) (sf : Format) : s.SourceKept sf s.canvas := fun _ _ => rfl

theorem State.Ready.sourceKept_paintPixel (hr : s.Ready k.sf k.tf) {c : Canvas} {p : Pixel} (hp : p ∈ s.visible)
    (hc : s.SourceKept k.sf c) : s.SourceKept k.sf (k.paintPixel s c p) := by
  intro a ha
  have hn : ((a.toNat : Nat) : Int) ∉ s.tgtBytes k.tf p := fun hm => by
    rw [Int.toNat_of_nonneg (hr.nonneg_src a ha)] at hm
    exact hr.undisturbed.apart a ha (State.mem_tgtSpan hp hm)
  exact (Kernel.read_paintPixel_other k s c p a.toNat
    (fun b hb => hr.nonneg_tgt b (State.mem_tgtSpan hp hb)) hn).trans (hc a ha)

theorem State.Ready.sourceKept_paint (hr : s.Ready k.sf k.tf) : s.SourceKept k.sf (k.paint s s.canvas) :=
  Kernel.paint_induction k s s.canvas (s.sourceKept_canvas k.sf) fun _ _ hp hc => hr.sourceKept_paintPixel hp hc

end

/-! ### The last pixel to ink a part of a byte -/

/-- A last value found from the back: one step from the front. -/
theorem getD_findSome?_reverse_cons {α β : Type} (f : α → Option β) (x : α) (l : List α) (d : β) :
    ((x :: l).reverse.findSome? f).getD d = (l.reverse.findSome? f).getD ((f x).getD d) := by
  rw [List.reverse_cons, List.findSome?_append, List.findSome?_singleton]
  cases l.reverse.findSome? f <;> rfl

/-- The value of the last visible pixel that has one, in the order of the loop. -/
def State.lastInk {α : Type} (s : State) (ink : Pixel → Option α) : Option α := s.visible.reverse.findSome? ink

/-- Of the part `part` of byte `n`, the kernel's pixel `p` makes the value `ink p`, or leaves it when there is none. -/
def Kernel.Inks {α : Type} (k : Kernel) (s : State) (part : Byte → α) (n : Nat) (ink : Pixel → Option α) : Prop :=
  ∀ c : Canvas, ∀ p ∈ s.visible, Memory.wf c.mem = true → s.SourceKept k.sf c →
    part (Memory.read (k.paintPixel s c p).mem n) = (ink p).getD (part (Memory.read c.mem n))

section
variable {α : Type} {k : Kernel} {s : State} {part : Byte → α} {n : Nat} {ink : Pixel → Option α}

/-- The pixel loop leaves each part as the last pixel to ink it did. -/
theorem Kernel.Inks.paint (h : k.Inks s part n ink) (hr : s.Ready k.sf k.tf) {c : Canvas}
    (hwf : Memory.wf c.mem = true) (hc : s.SourceKept k.sf c) :
    part (Memory.read (k.paint s c).mem n) = (s.lastInk ink).getD (part (Memory.read c.mem n)) := by
  have loop : ∀ l : List Pixel, (∀ p ∈ l, p ∈ s.visible) → ∀ c : Canvas, Memory.wf c.mem = true →
      s.SourceKept k.sf c → part (Memory.read (l.foldl (k.paintPixel s) c).mem n) =
        (l.reverse.findSome? ink).getD (part (Memory.read c.mem n)) := by
    intro l
    induction l with
    | nil => exact fun _ _ _ _ => rfl
    | cons p l ih =>
      intro hl c hwf hc
      obtain ⟨hp, hl⟩ := List.forall_mem_cons.1 hl
      rw [List.foldl_cons, ih hl _ (Kernel.wf_paintPixel k s c p hwf) (hr.sourceKept_paintPixel hp hc),
        h c p hp hwf hc, getD_findSome?_reverse_cons]
  exact loop s.visible (fun _ hp => hp) c hwf hc

/-- The pixel loop run again finds each part inked as it will ink it. -/
theorem Kernel.Inks.paint_again (h : k.Inks s part n ink) (hr : s.Ready k.sf k.tf) (hwf : Memory.wf s.mem = true) :
    part (Memory.read (k.paint s (k.paint s s.canvas)).mem n) = part (Memory.read (k.paint s s.canvas).mem n) := by
  have once : Memory.wf (k.paint s s.canvas).mem = true := Kernel.wf_paint hwf
  rw [h.paint hr once hr.sourceKept_paint, h.paint hr hwf (s.sourceKept_canvas k.sf)]
  cases s.lastInk ink <;> rfl

/-- When every pixel that inks does so with one value, the last one gives that value. -/
theorem State.lastInk_of_one_value (s : State) (v : α) (hits : Pixel → Prop) [DecidablePred hits]
    [Decidable (∃ p ∈ s.visible, hits p)] :
    s.lastInk (fun p => if hits p then some v else none) = if ∃ p ∈ s.visible, hits p then some v else none := by
  unfold State.lastInk
  split_ifs with h
  · obtain ⟨p, hp, hit⟩ := h
    have some_ink := (List.findSome?_isSome_iff (f := fun p => if hits p then some v else none)).2
      ⟨p, List.mem_reverse.2 hp, by simp [hit]⟩
    obtain ⟨w, hw⟩ := Option.isSome_iff_exists.1 some_ink
    obtain ⟨q, -, hq⟩ := List.exists_of_findSome?_eq_some hw
    obtain ⟨-, rfl⟩ : hits q ∧ v = w := by simpa using hq
    exact hw
  · exact List.findSome?_eq_none_iff.2 fun p hp => if_neg fun hit => h ⟨p, List.mem_reverse.1 hp, hit⟩

/-- When every pixel that inks a part does so with one value, the part holds that value if some pixel inks it, and the
old one otherwise. -/
theorem Kernel.Inks.painted {v : α} {hits : Pixel → Prop} [DecidablePred hits] [Decidable (∃ p ∈ s.visible, hits p)]
    (h : k.Inks s part n fun p => if hits p then some v else none) (hr : s.Ready k.sf k.tf)
    (hwf : Memory.wf s.mem = true) :
    part (Memory.read (s.painted k).mem n) =
      if ∃ p ∈ s.visible, hits p then v else part (Memory.read s.mem n) := by
  refine (h.paint hr hwf (s.sourceKept_canvas k.sf)).trans ?_
  rw [State.lastInk_of_one_value]
  split_ifs <;> rfl

end

/-! ### Writes, read back at any byte -/

theorem Canvas.read_put (c : Canvas) (a : Int) (v : Byte) (n : Nat) (hwf : Memory.wf c.mem = true) (ha : 0 ≤ a) :
    Memory.read (c.put a v).mem n = if (n : Int) = a then v else Memory.read c.mem n := by
  have e : n = a.toNat ↔ (n : Int) = a := by omega
  simp only [Canvas.put, Memory.read_write _ _ _ _ hwf, e]

/-- What a list of writes puts into byte `n`: the last of those to it. -/
def lastWrite (l : List (Int × Byte)) (n : Nat) : Option Byte :=
  l.reverse.findSome? fun q => if (n : Int) = q.1 then some q.2 else none

theorem lastWrite_singleton (a : Int) (v : Byte) (n : Nat) :
    lastWrite [(a, v)] n = if (n : Int) = a then some v else none := by
  simp [lastWrite]

theorem Canvas.read_putAll (l : List (Int × Byte)) (c : Canvas) (n : Nat) (hwf : Memory.wf c.mem = true)
    (h0 : ∀ q ∈ l, 0 ≤ q.1) : Memory.read (c.putAll l).mem n = (lastWrite l n).getD (Memory.read c.mem n) := by
  unfold lastWrite
  induction l generalizing c with
  | nil => rfl
  | cons q l ih =>
    obtain ⟨hq, h0⟩ := List.forall_mem_cons.1 h0
    refine (ih (c.put q.1 q.2) (Memory.wf_write _ _ _ hwf) h0).trans ?_
    rw [Canvas.read_put c q.1 q.2 n hwf hq, getD_findSome?_reverse_cons]
    split_ifs <;> rfl

/-! ### The source bit -/

/-- The loop reads each source bit as the command began. -/
theorem State.SourceKept.sourceBit {s : State} {c : Canvas} {p : Pixel} (hc : s.SourceKept .mono c)
    (hp : p ∈ s.visible) : sourceBit (s.srcX p) (c.pixel (s.srcBytes .mono p)) = s.sourceBitAt p :=
  congrArg (·.getLsbD (7 - s.srcX p % 8)) (hc _ (State.mem_srcSpan hp List.mem_cons_self))

/-! ### Pixels that share a byte (R141, R142) -/

/-- Pixels that each change one byte ink a part of it when the change gives that part one value at the set pixels placed
there, and leaves it at every other. -/
theorem Kernel.inks_of_one_byte {α : Type} {k : Kernel} {s : State} {part : Byte → α} {n : Nat} {v : α}
    {addr : Pixel → Int} {stroke : Pixel → Byte → Byte} {place : Pixel → Prop} [DecidablePred place]
    (hread : ∀ c, ∀ p ∈ s.visible, Memory.wf c.mem = true → s.SourceKept k.sf c →
      Memory.read (k.paintPixel s c p).mem n =
        if (n : Int) = addr p then stroke p (Memory.read c.mem n) else Memory.read c.mem n)
    (hpart : ∀ p old, part (stroke p old) = if s.sourceBitAt p = true ∧ place p then v else part old) :
    k.Inks s part n fun p =>
      if s.sourceBitAt p = true ∧ (n : Int) = addr p ∧ place p then some v else none := by
  intro c p hp hwf hc
  rw [hread c p hp hwf hc]
  beta_reduce
  by_cases hn : (n : Int) = addr p
  · rw [if_pos hn, hpart]
    by_cases hit : s.sourceBitAt p = true ∧ place p
    · rw [if_pos hit, if_pos ⟨hit.1, hn, hit.2⟩, Option.getD_some]
    · rw [if_neg hit, if_neg fun h => hit ⟨h.1, h.2.2⟩, Option.getD_none]
  · rw [if_neg hn, if_neg fun h => hn h.2.1, Option.getD_none]

theorem Kernel.read_paintPixel_of_one_byte {k : Kernel} {s : State} {c : Canvas} {p : Pixel} {a : Int}
    {stroke : Byte → Byte} (hwf : Memory.wf c.mem = true) (ha : 0 ≤ a) (htgt : s.tgtBytes k.tf p = [a])
    (hact : k.act s c p = .put [stroke (c.byte a)]) (n : Nat) :
    Memory.read (k.paintPixel s c p).mem n =
      if (n : Int) = a then stroke (Memory.read c.mem n) else Memory.read c.mem n := by
  have hpaint : k.paintPixel s c p = c.put a (stroke (c.byte a)) := by
    rw [Kernel.paintPixel_of_put hact, htgt]
    rfl
  rw [hpaint, Canvas.read_put _ _ _ _ hwf ha]
  split_ifs with hn
  · rw [← hn]
    rfl
  · rfl

theorem kernelM2M_onlyPaints : kernelM2M.OnlyPaints := ⟨rfl, fun _ _ _ h => nomatch h⟩

/-- What `M2M` makes of the target byte of a pixel. -/
def monoStroke (s : State) (p : Pixel) (old : Byte) : Byte := old ||| monoMask (s.tgtX p) (s.sourceBitAt p)

theorem kernelM2M_read_paintPixel {s : State} {c : Canvas} {p : Pixel} (hr : s.Ready .mono .mono)
    (hp : p ∈ s.visible) (hwf : Memory.wf c.mem = true) (hc : s.SourceKept .mono c) (n : Nat) :
    Memory.read (kernelM2M.paintPixel s c p).mem n =
      if (n : Int) = s.tgtRow (s.tgtY p) + (s.tgtX p / 8 : Nat) then monoStroke s p (Memory.read c.mem n)
      else Memory.read c.mem n := by
  refine Kernel.read_paintPixel_of_one_byte hwf (hr.nonneg_tgt _ (State.mem_tgtSpan hp List.mem_cons_self)) rfl ?_ n
  rw [monoStroke, ← hc.sourceBit hp]
  rfl

theorem monoMask_getLsbD (tx : Nat) (set : Bool) {b : Nat} (hb : b < 8) :
    (monoMask tx set).getLsbD b = (set && decide (b = 7 - tx % 8)) := by
  cases set
  · simp [monoMask]
  · simp only [monoMask, if_true, BitVec.getLsbD_shiftLeft, BitVec.getLsbD_one, Bool.true_and]
    grind

theorem monoStroke_getLsbD (s : State) {b : Nat} (hb : b < 8) (p : Pixel) (old : Byte) :
    (monoStroke s p old).getLsbD b =
      if s.sourceBitAt p = true ∧ b = 7 - s.tgtX p % 8 then true else old.getLsbD b := by
  rw [monoStroke, BitVec.getLsbD_or, monoMask_getLsbD _ _ hb]
  split_ifs with hit
  · simp [← hit.2, hit.1]
  · simp [Bool.and_eq_true, hit]

/-- `M2M` sets the target bit of a set pixel and leaves every other bit. -/
theorem kernelM2M_inks {s : State} (hr : s.Ready .mono .mono) (n : Nat) {b : Nat} (hb : b < 8) :
    kernelM2M.Inks s (·.getLsbD b) n fun p =>
      if s.sourceBitAt p = true ∧ (n : Int) = s.tgtRow (s.tgtY p) + (s.tgtX p / 8 : Nat) ∧ b = 7 - s.tgtX p % 8
      then some true else none :=
  Kernel.inks_of_one_byte (fun _ _ hp hwf hc => kernelM2M_read_paintPixel hr hp hwf hc n) (monoStroke_getLsbD s hb)

/-- Settles O26: a bit is inked with 1 or left. -/
theorem monoToMonoOrsSourceBits : Obligations.MonoToMonoOrsSourceBits := by
  intro geq tg2 s256 sg2 s hwf hr
  refine ⟨s.painted kernelM2M, exec_of_onlyPaints rfl kernelM2M_onlyPaints hr, rfl, fun n b hb => ?_⟩
  rw [(kernelM2M_inks hr n hb).painted hr hwf]
  split_ifs with hit
  · exact iff_of_true rfl (.inr hit)
  · exact ⟨.inl, fun h => h.resolve_right hit⟩

theorem kernelM2P4_onlyPaints : kernelM2P4.OnlyPaints where
  noTables := rfl
  noDraw s c p := by
    simp only [Kernel.act, kernelM2P4, lawM2P4]
    split <;> exact nofun

/-- The target byte of a pixel with `COLOR_VALUE[3:0]` in the nibble of its column. -/
def inkNibble (s : State) (p : Pixel) (old : Byte) : Byte :=
  if s.tgtX p % 2 = 0 then s.regs.colorValue.extractLsb' 0 4 ++ old.extractLsb' 0 4
  else old.extractLsb' 4 4 ++ s.regs.colorValue.extractLsb' 0 4

/-- What `M2P4` makes of the target byte of a pixel. -/
def nibbleStroke (s : State) (p : Pixel) (old : Byte) : Byte :=
  if s.sourceBitAt p = true then inkNibble s p old else old

theorem kernelM2P4_act {s : State} {c : Canvas} {p : Pixel} (hp : p ∈ s.visible) (hc : s.SourceKept .mono c) :
    kernelM2P4.act s c p = if s.sourceBitAt p = true
      then .put [inkNibble s p (c.byte (s.tgtRow (s.tgtY p) + (s.tgtX p / 2 : Nat)))] else .skip := by
  rw [← hc.sourceBit hp]
  rfl

theorem kernelM2P4_read_paintPixel {s : State} {c : Canvas} {p : Pixel} (hr : s.Ready .mono .pal4)
    (hp : p ∈ s.visible) (hwf : Memory.wf c.mem = true) (hc : s.SourceKept .mono c) (n : Nat) :
    Memory.read (kernelM2P4.paintPixel s c p).mem n =
      if (n : Int) = s.tgtRow (s.tgtY p) + (s.tgtX p / 2 : Nat) then nibbleStroke s p (Memory.read c.mem n)
      else Memory.read c.mem n := by
  have hact := kernelM2P4_act hp hc
  unfold nibbleStroke
  by_cases hset : s.sourceBitAt p = true
  · rw [if_pos hset] at hact ⊢
    exact Kernel.read_paintPixel_of_one_byte hwf (hr.nonneg_tgt _ (State.mem_tgtSpan hp List.mem_cons_self)) rfl hact n
  · rw [if_neg hset] at hact ⊢
    rw [Kernel.paintPixel_of_skip hact, ite_self]

theorem nibbleStroke_high (s : State) (p : Pixel) (old : Byte) : (nibbleStroke s p old).extractLsb' 4 4 =
    if s.sourceBitAt p = true ∧ s.tgtX p % 2 = 0 then s.regs.colorValue.extractLsb' 0 4 else old.extractLsb' 4 4 := by
  unfold nibbleStroke inkNibble
  split_ifs with hset heven hit hit hit
  · exact BitVec.extractLsb'_append_eq_left
  · exact absurd ⟨hset, heven⟩ hit
  · exact absurd hit.2 heven
  · exact BitVec.extractLsb'_append_eq_left
  · exact absurd hit.1 hset
  · rfl

theorem nibbleStroke_low (s : State) (p : Pixel) (old : Byte) : (nibbleStroke s p old).extractLsb' 0 4 =
    if s.sourceBitAt p = true ∧ s.tgtX p % 2 = 1 then s.regs.colorValue.extractLsb' 0 4 else old.extractLsb' 0 4 := by
  unfold nibbleStroke inkNibble
  split_ifs with hset heven hit hit hit
  · omega
  · exact BitVec.extractLsb'_append_eq_right
  · exact BitVec.extractLsb'_append_eq_right
  · exact absurd ⟨hset, by omega⟩ hit
  · exact absurd hit.1 hset
  · rfl

/-- `M2P4` inks the high nibble at a set pixel of even column. -/
theorem kernelM2P4_inks_high {s : State} (hr : s.Ready .mono .pal4) (n : Nat) :
    kernelM2P4.Inks s (·.extractLsb' 4 4) n fun p =>
      if s.sourceBitAt p = true ∧ (n : Int) = s.tgtRow (s.tgtY p) + (s.tgtX p / 2 : Nat) ∧ s.tgtX p % 2 = 0
      then some (s.regs.colorValue.extractLsb' 0 4) else none :=
  Kernel.inks_of_one_byte (fun _ _ hp hwf hc => kernelM2P4_read_paintPixel hr hp hwf hc n) (nibbleStroke_high s)

/-- `M2P4` inks the low nibble at a set pixel of odd column. -/
theorem kernelM2P4_inks_low {s : State} (hr : s.Ready .mono .pal4) (n : Nat) :
    kernelM2P4.Inks s (·.extractLsb' 0 4) n fun p =>
      if s.sourceBitAt p = true ∧ (n : Int) = s.tgtRow (s.tgtY p) + (s.tgtX p / 2 : Nat) ∧ s.tgtX p % 2 = 1
      then some (s.regs.colorValue.extractLsb' 0 4) else none :=
  Kernel.inks_of_one_byte (fun _ _ hp hwf hc => kernelM2P4_read_paintPixel hr hp hwf hc n) (nibbleStroke_low s)

/-- Settles O27: each nibble is inked with the one colour or left. -/
theorem monoToPalette4WritesNibbles : Obligations.MonoToPalette4WritesNibbles := by
  intro geq tg2 s256 sg2 s hwf hr
  exact ⟨s.painted kernelM2P4, exec_of_onlyPaints rfl kernelM2P4_onlyPaints hr, rfl, fun n =>
    ⟨(kernelM2P4_inks_high hr n).painted hr hwf, (kernelM2P4_inks_low hr n).painted hr hwf⟩⟩

/-! ### Whole-byte targets (R143 to R148) -/

/-- A mono kernel that writes the solid bytes of target format `tf`: kernels 3 to 8. -/
def monoSolid (path : BitVec 5) (tf : Format) : Kernel := ⟨path, .mono, tf, .none, lawSolid tf⟩

section
variable {path : BitVec 5} {tf : Format} {s : State}

theorem monoSolid_act {c : Canvas} {p : Pixel} (hp : p ∈ s.visible) (hc : s.SourceKept .mono c) :
    (monoSolid path tf).act s c p = if s.sourceBitAt p = true then .put (s.solid tf) else .skip := by
  rw [← hc.sourceBit hp]
  rfl

theorem monoSolid_onlyPaints (path : BitVec 5) (tf : Format) : (monoSolid path tf).OnlyPaints where
  noTables := rfl
  noDraw s c p := by
    simp only [Kernel.act, monoSolid, lawSolid]
    split <;> exact nofun

/-- A set pixel inks its bytes with those of a solid write; a clear one inks none. -/
theorem monoSolid_inks (hr : s.Ready .mono tf) (n : Nat) : (monoSolid path tf).Inks s id n fun p =>
    if s.sourceBitAt p = true then lastWrite ((s.tgtBytes tf p).zip (s.solid tf)) n else none := by
  intro c p hp hwf hc
  have hact := monoSolid_act (path := path) (tf := tf) hp hc
  beta_reduce
  split_ifs at hact ⊢
  · rw [Kernel.paintPixel_of_put hact]
    exact Canvas.read_putAll _ _ _ hwf fun q hq => hr.nonneg_tgt _ (State.mem_tgtSpan hp (List.of_mem_zip hq).1)
  · rw [Kernel.paintPixel_of_skip hact]
    rfl

/-- Onto pixels of one byte: the byte of a set pixel holds the colour, every other byte is as before. -/
theorem monoSolid_read_one_byte {v : Byte} (htgt : ∀ p, s.tgtBytes tf p = [s.tgtAddr 1 p]) (hsolid : s.solid tf = [v])
    (hwf : Memory.wf s.mem = true) (hr : s.Ready .mono tf) (n : Nat) :
    Memory.read (s.painted (monoSolid path tf)).mem n =
      if ∃ p ∈ s.visible, s.sourceBitAt p = true ∧ (n : Int) = s.tgtAddr 1 p then v else Memory.read s.mem n := by
  have hinks := monoSolid_inks (path := path) hr n
  simp only [htgt, hsolid, List.zip_cons_cons, List.zip_nil_left, lastWrite_singleton, ← ite_and] at hinks
  exact hinks.painted hr hwf

/-- Onto pixels apart: each byte of a set pixel holds its byte of the solid write, each byte of a clear one is as
before. -/
theorem monoSolid_byteAt (hwf : Memory.wf s.mem = true) (hr : s.Ready .mono tf) (hapart : s.PixelsApart tf)
    {p : Pixel} (hp : p ∈ s.visible) (hnd : (s.tgtBytes tf p).Nodup) (j : Nat) {a : Int} {v : Byte}
    (ha : (s.tgtBytes tf p)[j]? = some a) (hv : (s.solid tf)[j]? = some v) :
    (s.painted (monoSolid path tf)).byteAt a = if s.sourceBitAt p = true then v else s.byteAt a := by
  have hact := monoSolid_act (path := path) (tf := tf) hp (s.sourceKept_canvas .mono)
  split_ifs at hact ⊢
  · exact Kernel.paint_put (monoSolid path tf) s s.canvas p hp hr.nonneg_src hr.nonneg_tgt hr.undisturbed.apart hapart
      hwf hnd _ hact j a v ha hv
  · exact Kernel.paint_skip (monoSolid path tf) s s.canvas p hp hr.nonneg_src hr.nonneg_tgt hr.undisturbed.apart hapart
      hwf hact a (List.mem_of_getElem? ha)

theorem monoSolid_read_other (hr : s.Ready .mono tf) : ∀ n : Nat, (n : Int) ∉ s.tgtSpan tf →
    Memory.read (s.painted (monoSolid path tf)).mem n = Memory.read s.mem n :=
  State.read_painted_other (k := monoSolid path tf) hr

theorem exec_of_monoSolid {i : Instr} (hi : kernelOf i = some (monoSolid path tf)) (hr : s.Ready .mono tf) :
    exec i s = .next (s.painted (monoSolid path tf)) :=
  exec_of_onlyPaints hi (monoSolid_onlyPaints path tf) hr

end

/-- Settles O28: one byte a pixel, one colour. -/
theorem monoToByteTargetsWriteTheColour : Obligations.MonoToByteTargetsWriteTheColour := by
  intro geq tg2 s256 sg2 s r hmem hwf hr
  have htgt : ∀ p, [s.tgtRow (s.tgtY p) + s.tgtX p] = [s.tgtAddr 1 p] := fun p => by
    simp [State.tgtAddr]
  simp only [List.mem_cons, List.not_mem_nil, or_false] at hmem
  rcases hmem with rfl | rfl
  · exact ⟨_, exec_of_monoSolid (path := 3) (tf := .pal8) rfl hr, rfl, monoSolid_read_one_byte htgt rfl hwf hr⟩
  · exact ⟨_, exec_of_monoSolid (path := 4) (tf := .gray) rfl hr, rfl, monoSolid_read_one_byte htgt rfl hwf hr⟩

theorem State.tgtBytes_rgb16 {tf : Format} (s : State) (h : tf = .rgb555 ∨ tf = .rgb565) (p : Pixel) :
    s.tgtBytes tf p = [s.tgtAddr 2 p, s.tgtAddr 2 p + 1] := by
  rcases h with rfl | rfl <;> rfl

theorem State.tgtBytes_rgb32 (s : State) (p : Pixel) :
    s.tgtBytes .rgb32 p = [s.tgtAddr 4 p, s.tgtAddr 4 p + 1, s.tgtAddr 4 p + 2, s.tgtAddr 4 p + 3] := rfl

theorem State.solid_rgb16 {tf : Format} (s : State) (h : tf = .rgb555 ∨ tf = .rgb565) :
    s.solid tf = [wordByte s.regs.colorValue 0, wordByte s.regs.colorValue 1] := by
  rcases h with rfl | rfl <;> rfl

/-- The bytes of a colour pixel are distinct. -/
theorem State.tgtBytes_nodup {tf : Format} (s : State) (h : tf.isColourTarget = true) (p : Pixel) :
    (s.tgtBytes tf p).Nodup := by
  cases tf <;> simp [Format.isColourTarget, State.tgtBytes, pixelBytes] at h ⊢

theorem rd16_wordByte (v : Word) : rd16 (wordByte v 0) (wordByte v 1) = v.extractLsb' 0 16 :=
  BitVec.extractLsb'_append_extractLsb'_eq_extractLsb' (x := v) (start₁ := 0) (len₁ := 8) (len₂ := 8) rfl

/-- Onto 16-bit pixels apart: a set pixel holds the low half of `COLOR_VALUE`, a clear one is as before. -/
theorem monoSolid_pixel16 {path : BitVec 5} {tf : Format} {s : State} (h : tf = .rgb555 ∨ tf = .rgb565)
    (hwf : Memory.wf s.mem = true) (hr : s.Ready .mono tf) (hapart : s.PixelsApart tf) {p : Pixel}
    (hp : p ∈ s.visible) : (s.painted (monoSolid path tf)).pixel16 (s.tgtAddr 2 p) =
      if s.sourceBitAt p = true then s.regs.colorValue.extractLsb' 0 16 else s.pixel16 (s.tgtAddr 2 p) := by
  have hnd := s.tgtBytes_nodup (tf := tf) (by rcases h with rfl | rfl <;> rfl) p
  have byte := fun j {a v} => monoSolid_byteAt (path := path) (a := a) (v := v) hwf hr hapart hp hnd j
  rw [s.tgtBytes_rgb16 h, s.solid_rgb16 h] at byte
  rw [State.pixel16, byte 0 rfl rfl, byte 1 rfl rfl]
  split_ifs
  · exact rd16_wordByte _
  · rfl

/-- Settles O29: the two bytes of a pixel, lowest first. -/
theorem monoToRgb16WritesTheColour : Obligations.MonoToRgb16WritesTheColour := by
  intro geq tg2 s256 sg2 s r hmem hwf hr hapart
  simp only [List.mem_cons, List.not_mem_nil, or_false] at hmem
  rcases hmem with rfl | rfl
  · exact ⟨_, exec_of_monoSolid (path := 5) (tf := .rgb555) rfl hr, rfl, monoSolid_read_other hr,
      fun p hp => monoSolid_pixel16 (.inl rfl) hwf hr hapart hp⟩
  · exact ⟨_, exec_of_monoSolid (path := 6) (tf := .rgb565) rfl hr, rfl, monoSolid_read_other hr,
      fun p hp => monoSolid_pixel16 (.inr rfl) hwf hr hapart hp⟩

/-- Settles O30: the three bytes of a pixel, one for each channel. -/
theorem monoToRgb24WritesTheChannels : Obligations.MonoToRgb24WritesTheChannels := by
  intro geq tg2 s256 sg2 s hwf hr hapart
  refine ⟨_, exec_of_monoSolid (path := 7) (tf := .rgb24) rfl hr, rfl, monoSolid_read_other hr, fun p hp => ?_⟩
  have byte := fun j {a v} => monoSolid_byteAt (path := 7) (a := a) (v := v) hwf hr hapart hp (s.tgtBytes_nodup rfl p) j
  exact ⟨byte 0 rfl rfl, byte 1 rfl rfl, byte 2 rfl rfl⟩

/-- Settles O31: the four bytes of a pixel, lowest first. -/
theorem monoToRgb32WritesTheColour : Obligations.MonoToRgb32WritesTheColour := by
  intro geq tg2 s256 sg2 s hwf hr hapart
  refine ⟨_, exec_of_monoSolid (path := 8) (tf := .rgb32) rfl hr, rfl, monoSolid_read_other hr, fun p hp j hj => ?_⟩
  have ha : (s.tgtBytes .rgb32 p)[j]? = some (s.tgtAddr 4 p + j) := by
    rw [s.tgtBytes_rgb32]
    interval_cases j <;> simp
  have hv : (s.solid .rgb32)[j]? = some (s.regs.colorValue.extractLsb' (8 * j) 8) := by
    interval_cases j <;> rfl
  exact monoSolid_byteAt hwf hr hapart hp (s.tgtBytes_nodup rfl p) j ha hv

/-! ### A second run (R149) -/

/-- Run again on what it has painted, the kernel's loop leaves memory as it is. -/
def Kernel.Settles (k : Kernel) (s : State) : Prop :=
  (k.paint s (k.paint s s.canvas)).mem = (k.paint s s.canvas).mem

/-- A loop settles when it settles byte by byte. -/
theorem Kernel.settles_of_read {k : Kernel} {s : State} (hwf : Memory.wf s.mem = true)
    (h : ∀ n, Memory.read (k.paint s (k.paint s s.canvas)).mem n = Memory.read (k.paint s s.canvas).mem n) :
    k.Settles s := by
  have once : Memory.wf (k.paint s s.canvas).mem = true := Kernel.wf_paint hwf
  exact Memory.ext_of_read _ _ (Kernel.wf_paint once) once h

theorem kernelM2M_settles {s : State} (hwf : Memory.wf s.mem = true) (hr : s.Ready .mono .mono) :
    kernelM2M.Settles s :=
  Kernel.settles_of_read hwf fun n => BitVec.eq_of_getLsbD_eq fun _ hb => (kernelM2M_inks hr n hb).paint_again hr hwf

theorem byte_eq_of_nibbles {v w : Byte} (high : v.extractLsb' 4 4 = w.extractLsb' 4 4)
    (low : v.extractLsb' 0 4 = w.extractLsb' 0 4) : v = w := by
  have join (u : Byte) : u.extractLsb' 4 4 ++ u.extractLsb' 0 4 = u := BitVec.extractLsb'_append_extractLsb'
  rw [← join v, ← join w, high, low]

theorem kernelM2P4_settles {s : State} (hwf : Memory.wf s.mem = true) (hr : s.Ready .mono .pal4) :
    kernelM2P4.Settles s :=
  Kernel.settles_of_read hwf fun n =>
    byte_eq_of_nibbles ((kernelM2P4_inks_high hr n).paint_again hr hwf) ((kernelM2P4_inks_low hr n).paint_again hr hwf)

theorem monoSolid_settles {path : BitVec 5} {tf : Format} {s : State} (hwf : Memory.wf s.mem = true)
    (hr : s.Ready .mono tf) : (monoSolid path tf).Settles s :=
  Kernel.settles_of_read hwf fun n => (monoSolid_inks hr n).paint_again hr hwf

/-- A completed command is ready to run again. -/
theorem State.Ready.painted {k : Kernel} {s : State} (hr : s.Ready k.sf k.tf) : (s.painted k).Ready k.sf k.tf :=
  ⟨hr.admitted, hr.undisturbed.apart, rfl⟩

/-- The second of two runs leaves the memory of the first when the loop settles and the law reads of the state only what
a completed command keeps. -/
theorem mem_of_second_run {i : Instr} {k : Kernel} {s t u : State} (hi : kernelOf i = some k) (hk : k.OnlyPaints)
    (hlaw : k.law (s.painted k) = k.law s) (hr : s.Ready k.sf k.tf) (hs : k.Settles s) (h1 : exec i s = .next t)
    (h2 : exec i t = .next u) : u.mem = t.mem := by
  obtain rfl := Host.Outcome.next.inj ((exec_of_onlyPaints hi hk hr).symm.trans h1)
  obtain rfl := Host.Outcome.next.inj ((exec_of_onlyPaints hi hk hr.painted).symm.trans h2)
  have pixel : k.paintPixel (s.painted k) = k.paintPixel s := by
    funext c p
    simp only [Kernel.paintPixel, Kernel.act, hlaw]
    rfl
  calc (k.paint (s.painted k) (s.painted k).canvas).mem
      = (s.visible.foldl (k.paintPixel (s.painted k)) (s.painted k).canvas).mem := rfl
    _ = (k.paint s (k.paint s s.canvas)).mem := by rw [pixel, State.canvas_painted hk]; rfl
    _ = (k.paint s s.canvas).mem := hs

/-- Settles O32: whatever pixel inks a part last, the second run finds its ink there. -/
theorem monoKernelsAreIdempotent : Obligations.MonoKernelsAreIdempotent := by
  intro geq tg2 s256 sg2 s t u r hmem hwf hr h1 h2
  simp only [List.mem_cons, List.not_mem_nil, or_false] at hmem
  rcases hmem with rfl | rfl | rfl | rfl | rfl | rfl | rfl | rfl
  · exact mem_of_second_run rfl kernelM2M_onlyPaints rfl hr (kernelM2M_settles hwf hr) h1 h2
  · exact mem_of_second_run rfl kernelM2P4_onlyPaints rfl hr (kernelM2P4_settles hwf hr) h1 h2
  all_goals exact mem_of_second_run rfl (monoSolid_onlyPaints _ _) rfl hr (monoSolid_settles hwf hr) h1 h2

end Sys2Proof.Machine

/-! The colour targets of a gray source (spec 42_gray.md R170 to R182). Both blend laws stay between the old channel and
the fill, so a blended channel is exactly what its law says. A ready command whose pixels stand apart paints each pixel
from the memory it began with, so each pixel ends as its law answers there: kept, filled, blended or free. -/

namespace Sys2Proof.Machine

/-! ### The blend laws keep the width of a channel (R171, R178) -/

/-- A blend short of full coverage stays between the old channel and the fill. -/
theorem blend_mem_Icc {t f c m : Nat} (hc : c < m) :
    min (t : Int) f ≤ blend t f c m ∧ blend t f c m ≤ max (t : Int) f := by
  have hm : (0 : Int) < m := by omega
  have half : 0 ≤ ((m / 2 : Nat) : Int) ∧ ((m / 2 : Nat) : Int) < m := by omega
  unfold blend
  generalize ((m / 2 : Nat) : Int) = r at half
  obtain ⟨hr, hrm⟩ := half
  rcases le_total (t : Int) f with h | h
  · have low : 0 ≤ (c : Int) * (f - t) := mul_nonneg (by omega) (by omega)
    have high : (c : Int) * (f - t) ≤ m * (f - t) := mul_le_mul_of_nonneg_right (by omega) (by omega)
    have nonneg : 0 ≤ ((c : Int) * (f - t) + r).tdiv m := Int.tdiv_nonneg (by omega) (by omega)
    have below : ((c : Int) * (f - t) + r).tdiv m < f - t + 1 := by
      rw [Int.tdiv_eq_ediv_of_nonneg (by omega)]
      exact Int.ediv_lt_of_lt_mul hm (by linarith)
    omega
  · have low : (f - t : Int) * m ≤ c * (f - t) := by
      rw [mul_comm]
      exact mul_le_mul_of_nonpos_right (by omega) (by omega)
    have high : (c : Int) * (f - t) ≤ 0 := mul_nonpos_of_nonneg_of_nonpos (by omega) (by omega)
    have above : (f - t : Int) ≤ ((c : Int) * (f - t) + r).tdiv m := Int.le_tdiv_of_mul_le hm (by omega)
    have nonpos : ((c : Int) * (f - t) + r).tdiv m ≤ 0 :=
      (Int.tdiv_le_tdiv hm (by omega)).trans_eq (Int.tdiv_eq_zero_of_lt hr hrm)
    omega

/-- A fast blend stays between the old channel and the fill. -/
theorem fblend_mem_Icc {t f v : Nat} (hv : v ≤ 256) :
    min (t : Int) f ≤ fblend t f v ∧ fblend t f v ≤ max (t : Int) f := by
  rw [fblend, Int.shiftRight_eq_div_pow]
  rcases le_total (t : Int) f with h | h
  · have low : 0 ≤ (v : Int) * (f - t) := mul_nonneg (by omega) (by omega)
    have high : (v : Int) * (f - t) ≤ 256 * (f - t) := mul_le_mul_of_nonneg_right (by omega) (by omega)
    omega
  · have low : 256 * (f - t : Int) ≤ v * (f - t) := mul_le_mul_of_nonpos_right (by omega) (by omega)
    have high : (v : Int) * (f - t) ≤ 0 := mul_nonpos_of_nonneg_of_nonpos (by omega) (by omega)
    omega

/-- On channels of every width the mix answers what the law says, without loss. -/
def Mix.Follows (mix : Mix) (law : Nat → Nat → Int) : Prop :=
  ∀ (w : Nat) (t f : BitVec w), ((mix w t f).toNat : Int) = law t.toNat f.toNat

/-- A law that stays between the old channel and the fill loses nothing in the width of the channel. -/
theorem Mix.follows_of_mem_Icc {law : Nat → Nat → Int}
    (h : ∀ t f : Nat, min (t : Int) f ≤ law t f ∧ law t f ≤ max (t : Int) f) :
    Mix.Follows (fun w t f => BitVec.ofInt w (law t.toNat f.toNat)) law := by
  intro w t f
  obtain ⟨low, high⟩ := h t.toNat f.toNat
  have ht := t.isLt
  have hf := f.isLt
  rw [BitVec.toNat_ofInt, Int.emod_eq_of_lt (by omega) (by omega)]
  omega

theorem mixGeneral_follows {c m : Nat} (hc : c < m) : (mixGeneral c m).Follows fun t f => blend t f c m :=
  Mix.follows_of_mem_Icc fun _ _ => blend_mem_Icc hc

theorem mixFast_follows {v : Nat} (hv : v ≤ 256) : (mixFast v).Follows fun t f => fblend t f v :=
  Mix.follows_of_mem_Icc fun _ _ => fblend_mem_Icc hv

/-! ### The channels of a blended 16-bit pixel (R173) -/

/-- A mix with a fill channel shifted down to the width of the target channel. -/
theorem Mix.Follows.shifted_fill {mix : Mix} {law : Nat → Nat → Int} (h : mix.Follows law) {k n : Nat}
    (hk : k + n = 8) (t : BitVec n) (fill : Byte) :
    ((mix n t (fill.extractLsb' k n)).toNat : Int) = law t.toNat (fill.toNat / 2 ^ k) := by
  have bound : fill.toNat / 2 ^ k < 2 ^ n := Nat.div_lt_of_lt_mul (by rw [← pow_add, hk]; exact fill.isLt)
  rw [h, BitVec.extractLsb'_toNat, Nat.shiftRight_eq_div_pow, Nat.mod_eq_of_lt bound]

/-- The pixel `new` is the RGB555 pixel `old` with its channels blended by `law` and bit 15 kept. -/
def Blended555 (law : Nat → Nat → Int) (old new : BitVec 16) (r g b : Byte) : Prop :=
  new.getLsbD 15 = old.getLsbD 15 ∧
    ((new.extractLsb' 10 5).toNat : Int) = law (old.extractLsb' 10 5).toNat (r.toNat / 8) ∧
    ((new.extractLsb' 5 5).toNat : Int) = law (old.extractLsb' 5 5).toNat (g.toNat / 8) ∧
    ((new.extractLsb' 0 5).toNat : Int) = law (old.extractLsb' 0 5).toNat (b.toNat / 8)

/-- The pixel `new` is the RGB565 pixel `old` with its channels blended by `law`. -/
def Blended565 (law : Nat → Nat → Int) (old new : BitVec 16) (r g b : Byte) : Prop :=
  ((new.extractLsb' 11 5).toNat : Int) = law (old.extractLsb' 11 5).toNat (r.toNat / 8) ∧
    ((new.extractLsb' 5 6).toNat : Int) = law (old.extractLsb' 5 6).toNat (g.toNat / 4) ∧
    ((new.extractLsb' 0 5).toNat : Int) = law (old.extractLsb' 0 5).toNat (b.toNat / 8)

theorem inject555_blended {mix : Mix} {law : Nat → Nat → Int} (h : mix.Follows law) (p : BitVec 16) (r g b : Byte) :
    Blended555 law p (inject555 mix p r g b) r g b := by
  unfold Blended555 inject555
  refine ⟨?bit15, ?red, ?green, ?blue⟩
  case bit15 =>
    simp only [BitVec.getLsbD_append, Nat.reduceLT, Nat.reduceSub, if_false]
    simp
  case red =>
    rw [BitVec.extractLsb'_append_eq_of_le (by decide), BitVec.extractLsb'_append_eq_of_le (by decide),
      BitVec.extractLsb'_append_eq_right]
    exact h.shifted_fill rfl _ _
  case green =>
    rw [BitVec.extractLsb'_append_eq_of_le (by decide), BitVec.extractLsb'_append_eq_right]
    exact h.shifted_fill rfl _ _
  case blue =>
    rw [BitVec.extractLsb'_append_eq_right]
    exact h.shifted_fill rfl _ _

theorem inject565_blended {mix : Mix} {law : Nat → Nat → Int} (h : mix.Follows law) (p : BitVec 16) (r g b : Byte) :
    Blended565 law p (inject565 mix p r g b) r g b := by
  unfold Blended565 inject565
  refine ⟨?red, ?green, ?blue⟩
  case red =>
    rw [BitVec.extractLsb'_append_eq_of_le (by decide), BitVec.extractLsb'_append_eq_of_le (by decide),
      BitVec.extractLsb'_eq_self]
    exact h.shifted_fill rfl _ _
  case green =>
    rw [BitVec.extractLsb'_append_eq_of_le (by decide), BitVec.extractLsb'_append_eq_right]
    exact h.shifted_fill rfl _ _
  case blue =>
    rw [BitVec.extractLsb'_append_eq_right]
    exact h.shifted_fill rfl _ _

/-- The bytes that `wr16` writes read back as the pixel. -/
theorem rd16_wr16 (v : BitVec 16) : rd16 (v.extractLsb' 0 8) (v.extractLsb' 8 8) = v :=
  BitVec.extractLsb'_append_extractLsb'

/-! ### What a ready command with pixels apart leaves of each pixel -/

/-- A command that is ready, on memory in canonical form and on a target whose pixels share no byte. -/
structure State.ReadyApart (s : State) (sf tf : Format) : Prop where
  canonical : Memory.wf s.mem = true
  ready : s.Ready sf tf
  apart : s.PixelsApart tf

/-- What kernel `k`, which looks up no table, leaves of a ready command. -/
def State.afterLoop (s : State) (k : Kernel) : State :=
  { s.completed k.id with mem := (k.paint s s.canvas).mem, draws := (k.paint s s.canvas).draws }

section
variable {i : Instr} {k : Kernel} {s : State} {p : Pixel} {a : Int}

theorem exec_of_noTables (hi : kernelOf i = some k) (hk : k.tables = .none) (hr : s.Ready k.sf k.tf) :
    exec i s = .next (s.afterLoop k) := by
  have hl : k.lookups s = .ok s := by simp only [Kernel.lookups, hk]
  exact exec_of_ready hi hl hr

/-- A kernel that draws no free value leaves their count alone. -/
theorem State.afterLoop_eq_painted (hk : k.OnlyPaints) : s.afterLoop k = s.painted k := by
  rw [State.afterLoop, Kernel.draws_paint k s s.canvas fun d p _ => hk.noDraw s d p]
  rfl

theorem State.read_afterLoop_other (hr : s.Ready k.sf k.tf) (n : Nat) (hn : (n : Int) ∉ s.tgtSpan k.tf) :
    Memory.read (s.afterLoop k).mem n = Memory.read s.mem n :=
  Kernel.read_paint_other k s s.canvas n hr.nonneg_tgt hn

variable (h : s.ReadyApart k.sf k.tf) (hp : p ∈ s.visible)
include h hp

theorem State.ReadyApart.byteAt_of_skip (hact : k.act s s.canvas p = .skip) (ha : a ∈ s.tgtBytes k.tf p) :
    (s.afterLoop k).byteAt a = s.byteAt a :=
  Kernel.paint_skip k s s.canvas p hp h.ready.nonneg_src h.ready.nonneg_tgt h.ready.undisturbed.apart h.apart
    h.canonical hact a ha

theorem State.ReadyApart.drew_of_any (hact : k.act s s.canvas p = .any) (ha : a ∈ s.tgtBytes k.tf p) :
    s.Drew (s.afterLoop k) a :=
  Kernel.paint_any k s s.canvas p hp h.ready.nonneg_src h.ready.nonneg_tgt h.ready.undisturbed.apart h.apart
    h.canonical hact a ha

theorem State.ReadyApart.byteAt_of_put {bytes : List Byte} (htf : k.tf.isColourTarget = true)
    (hact : k.act s s.canvas p = .put bytes) (j : Nat) {v : Byte} (ha : (s.tgtBytes k.tf p)[j]? = some a)
    (hv : bytes[j]? = some v) : (s.afterLoop k).byteAt a = v :=
  Kernel.paint_put k s s.canvas p hp h.ready.nonneg_src h.ready.nonneg_tgt h.ready.undisturbed.apart h.apart
    h.canonical (s.tgtBytes_nodup htf p) bytes hact j a v ha hv

end

/-! ### The gray kernels and their pixel laws (R172, R178) -/

/-- A kernel from a gray source to the colour target `tf` with pixel law `law`: kernels 9 to 16. -/
def grayKernel (path : BitVec 5) (tf : Format) (law : PixelLaw) : Kernel := ⟨path, .gray, tf, .none, law⟩

section
variable {i : Instr} {path : BitVec 5} {tf : Format} {law : PixelLaw} {s : State}

theorem exec_of_grayKernel (hi : kernelOf i = some (grayKernel path tf law)) (hr : s.Ready .gray tf) :
    exec i s = .next (s.afterLoop (grayKernel path tf law)) := exec_of_noTables hi rfl hr

theorem grayKernel_read_other (hr : s.Ready .gray tf) : ∀ n : Nat, (n : Int) ∉ s.tgtSpan tf →
    Memory.read (s.afterLoop (grayKernel path tf law)).mem n = Memory.read s.mem n :=
  State.read_afterLoop_other (k := grayKernel path tf law) hr

end

/-- The bytes of the target pixel of a visible pixel as the command began. -/
def State.oldPixel (s : State) (tf : Format) (p : Pixel) : Nat → Byte := s.canvas.pixel (s.tgtBytes tf p)

section
variable {path : BitVec 5} {tf : Format} {s : State} {p : Pixel}

theorem grayGeneral_act (path : BitVec 5) (tf : Format) (s : State) (p : Pixel) :
    (grayKernel path tf (lawGrayGeneral tf)).act s s.canvas p =
      if s.coverageAt p = 0 then .skip
      else if s.coverageAt p = s.srcGrays.toNat - 1 then .put (s.solid tf)
      else if s.coverageAt p < s.srcGrays.toNat - 1 then
        .put (inject tf (mixGeneral (s.coverageAt p) (s.srcGrays.toNat - 1)) (s.oldPixel tf p) s.fillR s.fillG s.fillB)
      else .any := rfl

theorem grayGeneral_act_of_zero (hc : s.coverageAt p = 0) :
    (grayKernel path tf (lawGrayGeneral tf)).act s s.canvas p = .skip := by
  rw [grayGeneral_act, if_pos hc]

theorem grayGeneral_act_of_full (h0 : s.coverageAt p ≠ 0) (hc : s.coverageAt p = s.srcGrays.toNat - 1) :
    (grayKernel path tf (lawGrayGeneral tf)).act s s.canvas p = .put (s.solid tf) := by
  rw [grayGeneral_act, if_neg h0, if_pos hc]

theorem grayGeneral_act_of_between (h0 : s.coverageAt p ≠ 0) (hc : s.coverageAt p < s.srcGrays.toNat - 1) :
    (grayKernel path tf (lawGrayGeneral tf)).act s s.canvas p = .put (inject tf
      (mixGeneral (s.coverageAt p) (s.srcGrays.toNat - 1)) (s.oldPixel tf p) s.fillR s.fillG s.fillB) := by
  rw [grayGeneral_act, if_neg h0, if_neg hc.ne, if_pos hc]

theorem grayGeneral_act_of_above (hc : s.srcGrays.toNat - 1 < s.coverageAt p) :
    (grayKernel path tf (lawGrayGeneral tf)).act s s.canvas p = .any := by
  rw [grayGeneral_act, if_neg (Nat.ne_zero_of_lt hc), if_neg hc.ne', if_neg hc.asymm]

theorem grayFast_act (path : BitVec 5) (tf : Format) (s : State) (p : Pixel) :
    (grayKernel path tf (lawGrayFast tf)).act s s.canvas p =
      if s.coverageAt p ≥ 254 then .put (s.solid tf)
      else if s.coverageAt p ≥ 2 then
        .put (inject tf (mixFast (s.coverageAt p)) (s.oldPixel tf p) s.fillR s.fillG s.fillB)
      else .skip := rfl

theorem grayFast_act_of_low (hv : s.coverageAt p < 2) :
    (grayKernel path tf (lawGrayFast tf)).act s s.canvas p = .skip := by
  rw [grayFast_act, if_neg (by omega), if_neg (by omega)]

theorem grayFast_act_of_high (hv : 254 ≤ s.coverageAt p) :
    (grayKernel path tf (lawGrayFast tf)).act s s.canvas p = .put (s.solid tf) := by
  rw [grayFast_act, if_pos hv]

theorem grayFast_act_of_between (h2 : 2 ≤ s.coverageAt p) (hv : s.coverageAt p < 254) :
    (grayKernel path tf (lawGrayFast tf)).act s s.canvas p =
      .put (inject tf (mixFast (s.coverageAt p)) (s.oldPixel tf p) s.fillR s.fillG s.fillB) := by
  rw [grayFast_act, if_neg (by omega), if_pos h2]

theorem grayFast_onlyPaints (path : BitVec 5) (tf : Format) : (grayKernel path tf (lawGrayFast tf)).OnlyPaints where
  noTables := rfl
  noDraw s c p := by
    simp only [Kernel.act, grayKernel, lawGrayFast]
    split_ifs <;> exact nofun

/-- A fast gray kernel changes memory alone. -/
theorem grayFast_afterLoop (path : BitVec 5) (tf : Format) (s : State) :
    s.afterLoop (grayKernel path tf (lawGrayFast tf)) =
      { s.completed path with mem := (s.afterLoop (grayKernel path tf (lawGrayFast tf))).mem } :=
  State.afterLoop_eq_painted (grayFast_onlyPaints path tf)

end

/-! ### Targets of three and four bytes -/

theorem State.tgtBytes_rgb24_getElem? (s : State) (p : Pixel) {j : Nat} (hj : j < 3) :
    (s.tgtBytes .rgb24 p)[j]? = some (s.tgtAddr 3 p + j) := by
  have e : s.tgtBytes .rgb24 p = [s.tgtAddr 3 p, s.tgtAddr 3 p + 1, s.tgtAddr 3 p + 2] := rfl
  rw [e]
  interval_cases j <;> simp

theorem State.tgtAddr_mem_rgb24 (s : State) (p : Pixel) {j : Nat} (hj : j < 3) :
    s.tgtAddr 3 p + j ∈ s.tgtBytes .rgb24 p := List.mem_of_getElem? (s.tgtBytes_rgb24_getElem? p hj)

theorem State.tgtBytes_rgb32_getElem? (s : State) (p : Pixel) {j : Nat} (hj : j < 4) :
    (s.tgtBytes .rgb32 p)[j]? = some (s.tgtAddr 4 p + j) := by
  rw [s.tgtBytes_rgb32]
  interval_cases j <;> simp

theorem State.tgtAddr_mem_rgb32 (s : State) (p : Pixel) {j : Nat} (hj : j < 4) :
    s.tgtAddr 4 p + j ∈ s.tgtBytes .rgb32 p := List.mem_of_getElem? (s.tgtBytes_rgb32_getElem? p hj)

section
variable {path : BitVec 5} {plaw : PixelLaw} {mix : Mix} {law : Nat → Nat → Int} {s : State} {p : Pixel}

theorem State.ReadyApart.rgb24_of_solid (h : s.ReadyApart .gray .rgb24) (hp : p ∈ s.visible)
    (hact : (grayKernel path .rgb24 plaw).act s s.canvas p = .put (s.solid .rgb24)) {j : Nat} (hj : j < 3) :
    (s.afterLoop (grayKernel path .rgb24 plaw)).byteAt (s.tgtAddr 3 p + j) =
      s.regs.colorChan.extractLsb' (8 * j) 8 := by
  refine h.byteAt_of_put hp rfl hact j (s.tgtBytes_rgb24_getElem? p hj) ?_
  interval_cases j <;> rfl

theorem State.ReadyApart.rgb24_of_inject (h : s.ReadyApart .gray .rgb24) (hp : p ∈ s.visible)
    (hact : (grayKernel path .rgb24 plaw).act s s.canvas p =
      .put (inject .rgb24 mix (s.oldPixel .rgb24 p) s.fillR s.fillG s.fillB))
    (hmix : mix.Follows law) {j : Nat} (hj : j < 3) :
    (((s.afterLoop (grayKernel path .rgb24 plaw)).byteAt (s.tgtAddr 3 p + j)).toNat : Int) =
      law (s.byteAt (s.tgtAddr 3 p + j)).toNat (s.regs.colorChan.extractLsb' (8 * j) 8).toNat := by
  have ha := s.tgtBytes_rgb24_getElem? p hj
  have old : s.oldPixel .rgb24 p j = s.byteAt (s.tgtAddr 3 p + j) := Canvas.pixel_of_getElem? _ _ _ _ ha
  rw [h.byteAt_of_put hp rfl hact j (v := mix 8 (s.oldPixel .rgb24 p j) (s.regs.colorChan.extractLsb' (8 * j) 8)) ha
    (by interval_cases j <;> rfl), hmix, old]

theorem State.ReadyApart.rgb32_of_solid (h : s.ReadyApart .gray .rgb32) (hp : p ∈ s.visible)
    (hact : (grayKernel path .rgb32 plaw).act s s.canvas p = .put (s.solid .rgb32)) {j : Nat} (hj : j < 4) :
    (s.afterLoop (grayKernel path .rgb32 plaw)).byteAt (s.tgtAddr 4 p + j) =
      s.regs.colorValue.extractLsb' (8 * j) 8 := by
  refine h.byteAt_of_put hp rfl hact j (s.tgtBytes_rgb32_getElem? p hj) ?_
  interval_cases j <;> rfl

/-- The RGB32 pixel at `a` of state `t` is that of `s` with B, G and R blended by `law` and byte 3 kept. -/
def State.Blended32 (s t : State) (law : Nat → Nat → Int) (a : Int) : Prop :=
  ((t.byteAt a).toNat : Int) = law (s.byteAt a).toNat s.fillB.toNat ∧
    ((t.byteAt (a + 1)).toNat : Int) = law (s.byteAt (a + 1)).toNat s.fillG.toNat ∧
    ((t.byteAt (a + 2)).toNat : Int) = law (s.byteAt (a + 2)).toNat s.fillR.toNat ∧
    t.byteAt (a + 3) = s.byteAt (a + 3)

theorem State.ReadyApart.rgb32_of_inject (h : s.ReadyApart .gray .rgb32) (hp : p ∈ s.visible)
    (hact : (grayKernel path .rgb32 plaw).act s s.canvas p =
      .put (inject .rgb32 mix (s.oldPixel .rgb32 p) s.fillR s.fillG s.fillB))
    (hmix : mix.Follows law) :
    s.Blended32 (s.afterLoop (grayKernel path .rgb32 plaw)) law (s.tgtAddr 4 p) := by
  have byte (j : Nat) {a : Int} {v : Byte} (ha : (s.tgtBytes .rgb32 p)[j]? = some a) :=
    h.byteAt_of_put (v := v) hp rfl hact j ha
  rw [s.tgtBytes_rgb32] at byte
  rw [State.Blended32, byte 0 rfl rfl, byte 1 rfl rfl, byte 2 rfl rfl, byte 3 rfl rfl]
  exact ⟨hmix _ _ _, hmix _ _ _, hmix _ _ _, rfl⟩

end

/-! ### Targets of 16 bits -/

theorem State.tgtAddr_mem_rgb16 {tf : Format} (s : State) (htf : tf = .rgb555 ∨ tf = .rgb565) (p : Pixel) {j : Nat}
    (hj : j < 2) : s.tgtAddr 2 p + j ∈ s.tgtBytes tf p := by
  rw [s.tgtBytes_rgb16 htf]
  interval_cases j <;> simp

section
variable {path : BitVec 5} {tf : Format} {plaw : PixelLaw} {s : State} {p : Pixel}

theorem State.ReadyApart.rgb16_of_skip (h : s.ReadyApart .gray tf) (hp : p ∈ s.visible)
    (htf : tf = .rgb555 ∨ tf = .rgb565) (hact : (grayKernel path tf plaw).act s s.canvas p = .skip) :
    (s.afterLoop (grayKernel path tf plaw)).pixel16 (s.tgtAddr 2 p) = s.pixel16 (s.tgtAddr 2 p) := by
  have mem := s.tgtBytes_rgb16 htf p
  rw [State.pixel16, h.byteAt_of_skip hp hact (by simp [grayKernel, mem]),
    h.byteAt_of_skip hp hact (by simp [grayKernel, mem])]
  rfl

theorem State.ReadyApart.rgb16_of_put (h : s.ReadyApart .gray tf) (hp : p ∈ s.visible)
    (htf : tf = .rgb555 ∨ tf = .rgb565) {b0 b1 : Byte}
    (hact : (grayKernel path tf plaw).act s s.canvas p = .put [b0, b1]) :
    (s.afterLoop (grayKernel path tf plaw)).pixel16 (s.tgtAddr 2 p) = rd16 b0 b1 := by
  have colour : tf.isColourTarget = true := by rcases htf with rfl | rfl <;> rfl
  have mem := s.tgtBytes_rgb16 htf p
  rw [State.pixel16, h.byteAt_of_put hp colour hact 0 (by simp [grayKernel, mem]) rfl,
    h.byteAt_of_put hp colour hact 1 (by simp [grayKernel, mem]) rfl]

theorem State.ReadyApart.rgb16_of_solid (h : s.ReadyApart .gray tf) (hp : p ∈ s.visible)
    (htf : tf = .rgb555 ∨ tf = .rgb565) (hact : (grayKernel path tf plaw).act s s.canvas p = .put (s.solid tf)) :
    (s.afterLoop (grayKernel path tf plaw)).pixel16 (s.tgtAddr 2 p) = s.regs.colorValue.extractLsb' 0 16 := by
  rw [s.solid_rgb16 htf] at hact
  rw [h.rgb16_of_put hp htf hact, rd16_wordByte]

variable {mix : Mix} {law : Nat → Nat → Int}

theorem State.ReadyApart.rgb555_of_inject (h : s.ReadyApart .gray .rgb555) (hp : p ∈ s.visible)
    (hact : (grayKernel path .rgb555 plaw).act s s.canvas p =
      .put (inject .rgb555 mix (s.oldPixel .rgb555 p) s.fillR s.fillG s.fillB)) (hmix : mix.Follows law) :
    Blended555 law (s.pixel16 (s.tgtAddr 2 p)) ((s.afterLoop (grayKernel path .rgb555 plaw)).pixel16 (s.tgtAddr 2 p))
      s.fillR s.fillG s.fillB := by
  rw [h.rgb16_of_put hp (.inl rfl) hact, rd16_wr16]
  exact inject555_blended hmix _ _ _ _

theorem State.ReadyApart.rgb565_of_inject (h : s.ReadyApart .gray .rgb565) (hp : p ∈ s.visible)
    (hact : (grayKernel path .rgb565 plaw).act s s.canvas p =
      .put (inject .rgb565 mix (s.oldPixel .rgb565 p) s.fillR s.fillG s.fillB)) (hmix : mix.Follows law) :
    Blended565 law (s.pixel16 (s.tgtAddr 2 p)) ((s.afterLoop (grayKernel path .rgb565 plaw)).pixel16 (s.tgtAddr 2 p))
      s.fillR s.fillG s.fillB := by
  rw [h.rgb16_of_put hp (.inr rfl) hact, rd16_wr16]
  exact inject565_blended hmix _ _ _ _

end

/-! ### The general law (R174 to R177) -/

/-- Settles O33: each byte is a channel, kept, filled, blended or free with its pixel. -/
theorem grayToRgb24FollowsTheGeneralLaw : Obligations.GrayToRgb24FollowsTheGeneralLaw := by
  intro geq tg2 s hwf hr hapart
  have h : s.ReadyApart .gray .rgb24 := ⟨hwf, hr, hapart⟩
  refine ⟨_, exec_of_grayKernel (path := 11) (law := lawGrayGeneral .rgb24) rfl hr, rfl, grayKernel_read_other hr,
    fun p hp j hj => ⟨fun h0 => ?zero, fun h0 hm => ?full, fun h0 hm => ?between, fun hm => ?above⟩⟩
  case zero => exact h.byteAt_of_skip hp (grayGeneral_act_of_zero h0) (s.tgtAddr_mem_rgb24 p hj)
  case full => exact h.rgb24_of_solid hp (grayGeneral_act_of_full h0 hm) hj
  case between => exact h.rgb24_of_inject hp (grayGeneral_act_of_between h0 hm) (mixGeneral_follows hm) hj
  case above => exact h.drew_of_any hp (grayGeneral_act_of_above hm) (s.tgtAddr_mem_rgb24 p hj)

/-- Settles O34: the four bytes of a pixel, of which a blend keeps the last. -/
theorem grayToRgb32FollowsTheGeneralLaw : Obligations.GrayToRgb32FollowsTheGeneralLaw := by
  intro geq tg2 s hwf hr hapart
  have h : s.ReadyApart .gray .rgb32 := ⟨hwf, hr, hapart⟩
  refine ⟨_, exec_of_grayKernel (path := 12) (law := lawGrayGeneral .rgb32) rfl hr, rfl, grayKernel_read_other hr,
    fun p hp => ⟨fun h0 j hj => ?zero, fun h0 hm j hj => ?full, fun h0 hm => ?between, fun hm j hj => ?above⟩⟩
  case zero => exact h.byteAt_of_skip hp (grayGeneral_act_of_zero h0) (s.tgtAddr_mem_rgb32 p hj)
  case full => exact h.rgb32_of_solid hp (grayGeneral_act_of_full h0 hm) hj
  case between => exact h.rgb32_of_inject hp (grayGeneral_act_of_between h0 hm) (mixGeneral_follows hm)
  case above => exact h.drew_of_any hp (grayGeneral_act_of_above hm) (s.tgtAddr_mem_rgb32 p hj)

/-- Settles O35: three channels of 5 bits under the kept bit 15. -/
theorem grayToRgb555FollowsTheGeneralLaw : Obligations.GrayToRgb555FollowsTheGeneralLaw := by
  intro geq tg2 s hwf hr hapart
  have h : s.ReadyApart .gray .rgb555 := ⟨hwf, hr, hapart⟩
  refine ⟨_, exec_of_grayKernel (path := 9) (law := lawGrayGeneral .rgb555) rfl hr, rfl, grayKernel_read_other hr,
    fun p hp => ⟨fun h0 => ?zero, fun h0 hm => ?full, fun h0 hm => ?between, fun hm j hj => ?above⟩⟩
  case zero => exact h.rgb16_of_skip hp (.inl rfl) (grayGeneral_act_of_zero h0)
  case full => exact h.rgb16_of_solid hp (.inl rfl) (grayGeneral_act_of_full h0 hm)
  case between => exact h.rgb555_of_inject hp (grayGeneral_act_of_between h0 hm) (mixGeneral_follows hm)
  case above => exact h.drew_of_any hp (grayGeneral_act_of_above hm) (s.tgtAddr_mem_rgb16 (.inl rfl) p hj)

/-- Settles O36: channels of 5, 6 and 5 bits. -/
theorem grayToRgb565FollowsTheGeneralLaw : Obligations.GrayToRgb565FollowsTheGeneralLaw := by
  intro geq tg2 s hwf hr hapart
  have h : s.ReadyApart .gray .rgb565 := ⟨hwf, hr, hapart⟩
  refine ⟨_, exec_of_grayKernel (path := 10) (law := lawGrayGeneral .rgb565) rfl hr, rfl, grayKernel_read_other hr,
    fun p hp => ⟨fun h0 => ?zero, fun h0 hm => ?full, fun h0 hm => ?between, fun hm j hj => ?above⟩⟩
  case zero => exact h.rgb16_of_skip hp (.inr rfl) (grayGeneral_act_of_zero h0)
  case full => exact h.rgb16_of_solid hp (.inr rfl) (grayGeneral_act_of_full h0 hm)
  case between => exact h.rgb565_of_inject hp (grayGeneral_act_of_between h0 hm) (mixGeneral_follows hm)
  case above => exact h.drew_of_any hp (grayGeneral_act_of_above hm) (s.tgtAddr_mem_rgb16 (.inr rfl) p hj)

/-! ### The fast law (R179 to R182) -/

/-- Settles O37: every coverage is in range of the fast law, so no pixel is freed and only memory changes. -/
theorem fastGrayToByteChannels : Obligations.FastGrayToByteChannels := by
  intro geq tg2 s hwf
  refine ⟨fun hr hapart => ?rgb24, fun hr hapart => ?rgb32⟩
  case rgb24 =>
    have h : s.ReadyApart .gray .rgb24 := ⟨hwf, hr, hapart⟩
    refine ⟨_, exec_of_grayKernel rfl hr, grayFast_afterLoop 15 .rgb24 s, grayKernel_read_other hr,
      fun p hp j hj => ⟨fun hv => ?low, fun hv => ?high, fun h2 hv => ?between⟩⟩
    case low => exact h.byteAt_of_skip hp (grayFast_act_of_low hv) (s.tgtAddr_mem_rgb24 p hj)
    case high => exact h.rgb24_of_solid hp (grayFast_act_of_high hv) hj
    case between => exact h.rgb24_of_inject hp (grayFast_act_of_between h2 hv) (mixFast_follows (by omega)) hj
  case rgb32 =>
    have h : s.ReadyApart .gray .rgb32 := ⟨hwf, hr, hapart⟩
    refine ⟨_, exec_of_grayKernel rfl hr, grayFast_afterLoop 16 .rgb32 s, grayKernel_read_other hr,
      fun p hp => ⟨fun hv j hj => ?low, fun hv j hj => ?high, fun h2 hv => ?between⟩⟩
    case low => exact h.byteAt_of_skip hp (grayFast_act_of_low hv) (s.tgtAddr_mem_rgb32 p hj)
    case high => exact h.rgb32_of_solid hp (grayFast_act_of_high hv) hj
    case between => exact h.rgb32_of_inject hp (grayFast_act_of_between h2 hv) (mixFast_follows (by omega))

/-- Settles O38: kept, filled or blended by the fast law, pixel by pixel. -/
theorem fastGrayToRgb16 : Obligations.FastGrayToRgb16 := by
  intro geq tg2 s hwf
  refine ⟨fun hr hapart => ?rgb555, fun hr hapart => ?rgb565⟩
  case rgb555 =>
    have h : s.ReadyApart .gray .rgb555 := ⟨hwf, hr, hapart⟩
    refine ⟨_, exec_of_grayKernel rfl hr, grayFast_afterLoop 13 .rgb555 s, grayKernel_read_other hr,
      fun p hp => ⟨fun hv => ?low, fun hv => ?high, fun h2 hv => ?between⟩⟩
    case low => exact h.rgb16_of_skip hp (.inl rfl) (grayFast_act_of_low hv)
    case high => exact h.rgb16_of_solid hp (.inl rfl) (grayFast_act_of_high hv)
    case between => exact h.rgb555_of_inject hp (grayFast_act_of_between h2 hv) (mixFast_follows (by omega))
  case rgb565 =>
    have h : s.ReadyApart .gray .rgb565 := ⟨hwf, hr, hapart⟩
    refine ⟨_, exec_of_grayKernel rfl hr, grayFast_afterLoop 14 .rgb565 s, grayKernel_read_other hr,
      fun p hp => ⟨fun hv => ?low, fun hv => ?high, fun h2 hv => ?between⟩⟩
    case low => exact h.rgb16_of_skip hp (.inr rfl) (grayFast_act_of_low hv)
    case high => exact h.rgb16_of_solid hp (.inr rfl) (grayFast_act_of_high hv)
    case between => exact h.rgb565_of_inject hp (grayFast_act_of_between h2 hv) (mixFast_follows (by omega))

end Sys2Proof.Machine

/-! The LCD kernels (spec 43_lcd.md R200 to R208). The six differ in where the three samples of a pixel stand and in
which order they cover the channels; `State.lcdCover` says both once. Each kernel then puts three bytes into its target
pixel, each from the old byte, the fill and the coverage of its own channel. -/

namespace Sys2Proof

theorem Format.isLcd_iff (sf : Format) :
    sf.isLcd = true ↔ sf = .lcdH ∨ sf = .lcdHR ∨ sf = .lcdV ∨ sf = .lcdVR := by
  cases sf <;> decide

/-- The LCD formats whose samples stand in the order B, G, R (20_memory.md R68). -/
def Format.isReversed (sf : Format) : Bool := !decide (sf = .lcdH ∨ sf = .lcdV)

end Sys2Proof

namespace Sys2Proof.Machine

/-! ### The general law up to full coverage (R171, R201) -/

/-- A blend at full coverage stays between the old channel and the fill: downwards the division may miss the fill. -/
theorem blend_full_mem_Icc {t f m : Nat} (hm : 0 < m) :
    min (t : Int) f ≤ blend t f m m ∧ blend t f m m ≤ max (t : Int) f := by
  have hm : (0 : Int) < m := by omega
  have half : 0 ≤ ((m / 2 : Nat) : Int) ∧ ((m / 2 : Nat) : Int) < m := by omega
  unfold blend
  generalize ((m / 2 : Nat) : Int) = r at half
  obtain ⟨hr, hrm⟩ := half
  rcases le_total (t : Int) f with h | h
  · have exact_fill : ((m : Int) * (f - t) + r).tdiv m = f - t := by
      have nonneg : 0 ≤ (m : Int) * (f - t) := mul_nonneg hm.le (by omega)
      rw [Int.tdiv_eq_ediv_of_nonneg (by omega), Int.mul_add_ediv_left _ _ hm.ne', Int.ediv_eq_zero_of_lt hr hrm]
      omega
    omega
  · have high : (m : Int) * (f - t) ≤ 0 := mul_nonpos_of_nonneg_of_nonpos hm.le (by omega)
    have above : (f - t : Int) ≤ ((m : Int) * (f - t) + r).tdiv m := Int.le_tdiv_of_mul_le hm (by linarith)
    have nonpos : ((m : Int) * (f - t) + r).tdiv m ≤ 0 :=
      (Int.tdiv_le_tdiv hm (by omega)).trans_eq (Int.tdiv_eq_zero_of_lt hr hrm)
    omega

/-- One channel of an LCD pixel can have full coverage while another has not. -/
theorem mixGeneral_follows_of_le {c m : Nat} (hm : 0 < m) (hc : c ≤ m) :
    (mixGeneral c m).Follows fun t f => blend t f c m := by
  rcases hc.lt_or_eq with hc | rfl
  · exact mixGeneral_follows hc
  · exact Mix.follows_of_mem_Icc fun _ _ => blend_full_mem_Icc hm

/-! ### Samples, coverages and fill, by channel (R200) -/

theorem forall_lt_three {P : Nat → Prop} : (∀ j < 3, P j) ↔ P 0 ∧ P 1 ∧ P 2 := by
  simp only [Nat.forall_lt_succ_left, Nat.not_lt_zero, IsEmpty.forall_iff, implies_true, and_true]

theorem exists_lt_three {P : Nat → Prop} : (∃ j < 3, P j) ↔ P 0 ∨ P 1 ∨ P 2 := by
  simp only [Nat.exists_lt_succ_left, Nat.not_lt_zero, false_and, exists_false, or_false]

/-- Where sample `j` of a visible pixel of an LCD source stands (20_memory.md R68). -/
def State.lcdSampleAddr (s : State) (sf : Format) (p : Pixel) (j : Nat) : Int :=
  if sf = .lcdH ∨ sf = .lcdHR then s.srcRow (s.srcY p) + 3 * s.srcX p + j else s.srcRow (3 * s.srcY p + j) + s.srcX p

/-- Which sample covers channel `j` (R, G, B): the reversed formats hold B, G, R. -/
def lcdSampleIndex (sf : Format) (j : Nat) : Nat := if sf = .lcdH ∨ sf = .lcdV then j else 2 - j

/-- The coverage of channel `j` of a visible pixel of an LCD source. -/
def State.lcdCover (s : State) (sf : Format) (p : Pixel) (j : Nat) : Nat :=
  (s.byteAt (s.lcdSampleAddr sf p (lcdSampleIndex sf j))).toNat

/-- Channel `j` (R, G, B) of the fill. -/
def State.fillChannel (s : State) (j : Nat) : Byte := s.regs.colorChan.extractLsb' (8 * j) 8

/-- The three samples of an LCD source pixel are its bytes. -/
theorem State.srcBytes_lcd_getElem? (s : State) {sf : Format} (hsf : sf.isLcd = true) (p : Pixel) {j : Nat}
    (hj : j < 3) : (s.srcBytes sf p)[j]? = some (s.lcdSampleAddr sf p j) := by
  rcases (Format.isLcd_iff sf).1 hsf with rfl | rfl | rfl | rfl <;>
    interval_cases j <;> simp [State.srcBytes, pixelBytes, State.lcdSampleAddr]

/-- A pixel law sees the coverages in the order of the channels. -/
theorem coverages_eq (s : State) {sf : Format} (hsf : sf.isLcd = true) (p : Pixel) :
    coverages sf.isReversed (s.canvas.pixel (s.srcBytes sf p)) =
      (s.lcdCover sf p 0, s.lcdCover sf p 1, s.lcdCover sf p 2) := by
  have sample {j : Nat} (hj : j < 3) :
      s.canvas.pixel (s.srcBytes sf p) j = s.byteAt (s.lcdSampleAddr sf p j) :=
    Canvas.pixel_of_getElem? _ _ _ _ (s.srcBytes_lcd_getElem? hsf p hj)
  by_cases order : sf = .lcdH ∨ sf = .lcdV <;>
    simp [coverages, Format.isReversed, State.lcdCover, lcdSampleIndex, order, sample]

/-! ### The LCD kernels (R202 to R208) -/

/-- The kernel with pixel law `law` from LCD format `sf`: kernels 19 to 24. -/
def lcdKernel (path : BitVec 5) (sf : Format) (law : Bool → PixelLaw) : Kernel :=
  ⟨path, sf, .rgb24, .none, law sf.isReversed⟩

section
variable {path : BitVec 5} {sf : Format} {law : Bool → PixelLaw} {s : State} {p : Pixel}

theorem lcdKernel_read_other (hr : s.Ready sf .rgb24) : ∀ n : Nat, (n : Int) ∉ s.tgtSpan .rgb24 →
    Memory.read (s.afterLoop (lcdKernel path sf law)).mem n = Memory.read s.mem n :=
  State.read_afterLoop_other (k := lcdKernel path sf law) hr

theorem State.oldPixel_rgb24 (s : State) (p : Pixel) {j : Nat} (hj : j < 3) :
    s.oldPixel .rgb24 p j = s.byteAt (s.tgtAddr 3 p + j) :=
  Canvas.pixel_of_getElem? _ _ _ _ (s.tgtBytes_rgb24_getElem? p hj)

/-- A pixel that is put holds the byte of each channel. -/
theorem State.ReadyApart.lcd_of_put (h : s.ReadyApart sf .rgb24) (hp : p ∈ s.visible) {v : Nat → Byte}
    (hact : (lcdKernel path sf law).act s s.canvas p = .put [v 0, v 1, v 2]) {j : Nat} (hj : j < 3) :
    (s.afterLoop (lcdKernel path sf law)).byteAt (s.tgtAddr 3 p + j) = v j := by
  refine h.byteAt_of_put hp rfl hact j (s.tgtBytes_rgb24_getElem? p hj) ?_
  interval_cases j <;> rfl

end

/-! ### The general law (R201 to R205) -/

section
variable {path : BitVec 5} {sf : Format} {s : State} {p : Pixel}

/-- The byte of channel `j` of a pixel blended by the general law. -/
def State.lcdBlended (s : State) (sf : Format) (p : Pixel) (j : Nat) : Byte :=
  mixGeneral (s.lcdCover sf p j) s.maxCoverage 8 (s.oldPixel .rgb24 p j) (s.fillChannel j)

theorem lcdGeneral_act (path : BitVec 5) (hsf : sf.isLcd = true) (s : State) (p : Pixel) :
    (lcdKernel path sf lawLcdGeneral).act s s.canvas p =
      if ∀ j : Nat, j < 3 → s.lcdCover sf p j = 0 then .skip
      else if ∀ j : Nat, j < 3 → s.lcdCover sf p j = s.maxCoverage then
        .put [s.fillChannel 0, s.fillChannel 1, s.fillChannel 2]
      else if ∃ j : Nat, j < 3 ∧ s.maxCoverage < s.lcdCover sf p j then .any
      else .put [s.lcdBlended sf p 0, s.lcdBlended sf p 1, s.lcdBlended sf p 2] := by
  simp only [Kernel.act, lcdKernel, lawLcdGeneral, coverages_eq s hsf p, lcdGeneral, forall_lt_three, exists_lt_three,
    gt_iff_lt]
  rfl

theorem lcdGeneral_act_of_zero (hsf : sf.isLcd = true) (h0 : ∀ j < 3, s.lcdCover sf p j = 0) :
    (lcdKernel path sf lawLcdGeneral).act s s.canvas p = .skip := by
  rw [lcdGeneral_act path hsf, if_pos h0]

theorem lcdGeneral_act_of_full (hsf : sf.isLcd = true) (hm : ∀ j < 3, s.lcdCover sf p j = s.maxCoverage)
    (h0 : s.maxCoverage ≠ 0) :
    (lcdKernel path sf lawLcdGeneral).act s s.canvas p =
      .put [s.fillChannel 0, s.fillChannel 1, s.fillChannel 2] := by
  rw [lcdGeneral_act path hsf, if_neg fun h => h0 ((hm 0 (by decide)).symm.trans (h 0 (by decide))), if_pos hm]

theorem lcdGeneral_act_of_above (hsf : sf.isLcd = true) (hm : ∃ j < 3, s.maxCoverage < s.lcdCover sf p j) :
    (lcdKernel path sf lawLcdGeneral).act s s.canvas p = .any := by
  obtain ⟨j, hj, above⟩ := hm
  rw [lcdGeneral_act path hsf, if_neg fun h => (Nat.ne_zero_of_lt above) (h j hj), if_neg fun h => above.ne' (h j hj),
    if_pos ⟨j, hj, above⟩]

theorem lcdGeneral_act_of_between (hsf : sf.isLcd = true) (hm : ∀ j < 3, s.lcdCover sf p j ≤ s.maxCoverage)
    (h0 : ∃ j < 3, s.lcdCover sf p j ≠ 0) (hfull : ∃ j < 3, s.lcdCover sf p j ≠ s.maxCoverage) :
    (lcdKernel path sf lawLcdGeneral).act s s.canvas p =
      .put [s.lcdBlended sf p 0, s.lcdBlended sf p 1, s.lcdBlended sf p 2] := by
  obtain ⟨i, hi, nonzero⟩ := h0
  obtain ⟨k, hk, short⟩ := hfull
  rw [lcdGeneral_act path hsf, if_neg fun h => nonzero (h i hi), if_neg fun h => short (h k hk),
    if_neg fun ⟨j, hj, above⟩ => above.not_ge (hm j hj)]

/-- A blended channel is exactly what the general law says. -/
theorem State.lcdBlended_toNat (hm : 0 < s.maxCoverage) {j : Nat} (hj : j < 3)
    (hc : s.lcdCover sf p j ≤ s.maxCoverage) :
    ((s.lcdBlended sf p j).toNat : Int) =
      blend (s.byteAt (s.tgtAddr 3 p + j)).toNat (s.fillChannel j).toNat (s.lcdCover sf p j) s.maxCoverage := by
  rw [State.lcdBlended, mixGeneral_follows_of_le hm hc, s.oldPixel_rgb24 p hj]

end

/-- Settles O42: the four kernels are one law over the coverages of the three channels, which takes a pixel as a whole
when it keeps, fills or frees it. -/
theorem lcdKernelsFollowTheGeneralLaw : Obligations.LcdKernelsFollowTheGeneralLaw := by
  intro geq tg2 s256 s r hrow hwf hr hapart
  have kernel : r.2.1.isLcd = true ∧ kernelOf r.1 = some (lcdKernel r.2.2 r.2.1 lawLcdGeneral) := by
    simp only [List.mem_cons, List.not_mem_nil, or_false] at hrow
    rcases hrow with rfl | rfl | rfl | rfl <;> exact ⟨rfl, rfl⟩
  obtain ⟨hsf, hk⟩ := kernel
  have h : s.ReadyApart r.2.1 .rgb24 := ⟨hwf, hr, hapart⟩
  refine ⟨_, exec_of_noTables hk rfl hr, rfl, lcdKernel_read_other hr, fun p hp =>
    ⟨fun h0 j hj => ?zero, fun hm h0 j hj => ?full, fun hm h0 hfull j hj => ?between, fun hm j hj => ?above⟩⟩
  case zero => exact h.byteAt_of_skip hp (lcdGeneral_act_of_zero hsf h0) (s.tgtAddr_mem_rgb24 p hj)
  case full => exact h.lcd_of_put hp (lcdGeneral_act_of_full hsf hm h0) hj
  case between =>
    have hpos : 0 < s.maxCoverage := by
      obtain ⟨i, hi, nonzero⟩ := h0
      exact (Nat.pos_of_ne_zero nonzero).trans_le (hm i hi)
    rw [h.lcd_of_put hp (lcdGeneral_act_of_between hsf hm h0 hfull) hj]
    exact State.lcdBlended_toNat hpos hj (hm j hj)
  case above => exact h.drew_of_any hp (lcdGeneral_act_of_above hsf hm) (s.tgtAddr_mem_rgb24 p hj)

/-! ### The fast law (R206 to R208) -/

theorem lcdFastChannel_of_low {t f : Byte} {c : Nat} (hc : c < 2) : lcdFastChannel t f c = t := by
  rw [lcdFastChannel, if_neg (by omega), if_neg (by omega)]

theorem lcdFastChannel_of_high {t f : Byte} {c : Nat} (hc : 254 ≤ c) : lcdFastChannel t f c = f := by
  rw [lcdFastChannel, if_pos hc]

theorem lcdFastChannel_of_between {t f : Byte} {c : Nat} (h2 : 2 ≤ c) (hc : c < 254) :
    ((lcdFastChannel t f c).toNat : Int) = fblend t.toNat f.toNat c := by
  rw [lcdFastChannel, if_neg (by omega), if_pos h2, mixFast_follows (by omega)]

section
variable {path : BitVec 5} {sf : Format} {s : State} {p : Pixel}

/-- The byte of channel `j` of a pixel that the fast law does not skip. -/
def State.lcdFastByte (s : State) (sf : Format) (p : Pixel) (j : Nat) : Byte :=
  lcdFastChannel (s.oldPixel .rgb24 p j) (s.fillChannel j) (s.lcdCover sf p j)

theorem lcdFast_act (path : BitVec 5) (hsf : sf.isLcd = true) (s : State) (p : Pixel) :
    (lcdKernel path sf lawLcdFast).act s s.canvas p =
      if ∀ j : Nat, j < 3 → s.lcdCover sf p j = 0 then .skip
      else .put [s.lcdFastByte sf p 0, s.lcdFastByte sf p 1, s.lcdFastByte sf p 2] := by
  simp only [Kernel.act, lcdKernel, lawLcdFast, coverages_eq s hsf p, lcdFast, forall_lt_three]
  rfl

theorem lcdFast_onlyPaints (path : BitVec 5) (sf : Format) : (lcdKernel path sf lawLcdFast).OnlyPaints where
  noTables := rfl
  noDraw s c p := by
    simp only [Kernel.act, lcdKernel, lawLcdFast, lcdFast]
    split_ifs <;> exact nofun

/-- Each byte is its channel's fast blend, in a skipped pixel too: a channel not covered keeps its byte. -/
theorem State.ReadyApart.lcdFast_byteAt (h : s.ReadyApart sf .rgb24) (hsf : sf.isLcd = true) (hp : p ∈ s.visible)
    {j : Nat} (hj : j < 3) :
    (s.afterLoop (lcdKernel path sf lawLcdFast)).byteAt (s.tgtAddr 3 p + j) =
      lcdFastChannel (s.byteAt (s.tgtAddr 3 p + j)) (s.fillChannel j) (s.lcdCover sf p j) := by
  have hact := lcdFast_act path hsf s p
  split_ifs at hact with h0
  · rw [h.byteAt_of_skip hp hact (s.tgtAddr_mem_rgb24 p hj), h0 j hj, lcdFastChannel_of_low (by decide)]
  · rw [h.lcd_of_put hp hact hj, State.lcdFastByte, s.oldPixel_rgb24 p hj]

/-- In the horizontal formats the samples of a pixel stand side by side. -/
theorem State.lcdCover_horizontal (s : State) (h : sf = .lcdH ∨ sf = .lcdHR) (p : Pixel) (j : Nat) :
    s.lcdCover sf p j = (s.byteAt (s.srcRow (s.srcY p) + 3 * s.srcX p +
      ((if sf = .lcdH then j else 2 - j : Nat) : Int))).toNat := by
  rcases h with rfl | rfl <;> rfl

end

/-- Settles O43: no coverage is out of range of the fast law, and each byte is its own channel's. -/
theorem fastLcdKernelsFollowTheFastLaw : Obligations.FastLcdKernelsFollowTheFastLaw := by
  intro geq tg2 s r hrow hwf hr hapart
  have kernel : (r.2.1 = .lcdH ∨ r.2.1 = .lcdHR) ∧ kernelOf r.1 = some (lcdKernel r.2.2 r.2.1 lawLcdFast) := by
    simp only [List.mem_cons, List.not_mem_nil, or_false] at hrow
    rcases hrow with rfl | rfl
    · exact ⟨.inl rfl, rfl⟩
    · exact ⟨.inr rfl, rfl⟩
  obtain ⟨hsf, hk⟩ := kernel
  have hlcd : r.2.1.isLcd = true := (Format.isLcd_iff _).2 (hsf.imp_right .inl)
  have h : s.ReadyApart r.2.1 .rgb24 := ⟨hwf, hr, hapart⟩
  refine ⟨_, exec_of_noTables hk rfl hr, State.afterLoop_eq_painted (lcdFast_onlyPaints r.2.2 r.2.1),
    lcdKernel_read_other hr, fun p hp j hj => ?_⟩
  dsimp only
  rw [h.lcdFast_byteAt hlcd hp hj, ← s.lcdCover_horizontal hsf p j]
  exact ⟨lcdFastChannel_of_low, lcdFastChannel_of_high, lcdFastChannel_of_between⟩

end Sys2Proof.Machine

/-! The table caches (spec 44_lut_cache.md): what the two tables hold (R221, R222), how a lookup of a full list ends a
command (R224), and that nothing but reset takes an entry out (R226). -/

namespace Sys2Proof.Machine

/-! ### The entries of the two tables (R221, R222) -/

/-- Settles O22, range by range: the ramp, the clamp, past the table. -/
theorem saturationTableEntries : Obligations.SaturationTableEntries := by
  intro g k hg
  refine ⟨fun hk => ?_, fun hk hlast => ?_, fun hk => ?_⟩
  · have ramp : k + 1 ≤ g := by omega
    simp only [satEntry, if_pos ramp]
  · have clamp : ¬k + 1 ≤ g ∧ k + 2 ≤ 3 * g := by omega
    simp only [satEntry, if_neg clamp.1, if_pos clamp.2]
  · have past : ¬k + 1 ≤ g ∧ ¬k + 2 ≤ 3 * g := by omega
    simp only [satEntry, if_neg past.1, if_neg past.2]

theorem convEntry_eq_none {gs i : Nat} (gt : Nat) (h : gs ≤ i) : convEntry gt gs i = none :=
  if_neg (by omega)

theorem convEntry_eq_some {gs i : Nat} (gt : Nat) (h : i < gs) :
    convEntry gt gs i = some (i * (gt - 1) / (gs - 1)) := if_pos h

/-- Settles O23: an entry is a quotient rounded down, at most the one of the last index, where the division is exact. -/
theorem conversionTableEntries : Obligations.ConversionTableEntries := by
  intro gt gs i hgt hgs
  have hpos : 0 < gs - 1 := by omega
  refine ⟨fun h => convEntry_eq_none gt (by omega), fun h =>
    ⟨_, convEntry_eq_some gt (by omega), Nat.div_mul_le_self _ _, ?_, ?_, ?_, ?_⟩⟩
  · exact Nat.lt_mul_of_div_lt (Nat.lt_succ_self _) hpos
  · exact Nat.div_le_of_le_mul (Nat.mul_le_mul_right _ h)
  · rintro rfl
    rw [Nat.zero_mul, Nat.zero_div]
  · rintro rfl
    exact Nat.mul_div_cancel_left _ hpos

/-! ### A failed lookup (R224) -/

/-- The saturation key is cached, or there is room for it (R223). -/
def State.SatAvailable (s : State) : Prop := s.tgtGrays ∈ s.sat ∨ s.sat.length < s.params.satCap

/-- The saturation list once the command's key is in it. -/
def State.satWithKey (s : State) : List Count := if s.tgtGrays ∈ s.sat then s.sat else s.sat ++ [s.tgtGrays]

section
variable {k : Kernel} {i : Instr} {s s1 : State}

theorem State.SatAvailable.lookupSat (h : s.SatAvailable) :
    s.lookupSat s.tgtGrays = some { s with sat := s.satWithKey } := by
  by_cases hmem : s.tgtGrays ∈ s.sat
  · simp only [State.lookupSat, State.satWithKey, if_pos hmem]
  · simp only [State.lookupSat, State.satWithKey, if_neg hmem, if_pos (h.resolve_left hmem)]

theorem Kernel.lookups_error_of_sat (hk : k.tables ≠ .none) (h : s.lookupSat s.tgtGrays = none) :
    k.lookups s = .error s := by
  cases ht : k.tables with
  | none => exact absurd ht hk
  | sat => simp only [Kernel.lookups, ht, h]
  | satConv => simp only [Kernel.lookups, ht, h]

/-- The saturation lookup comes first, and what it inserted stays (R227). -/
theorem Kernel.lookups_error_of_conv (hk : k.tables = .satConv) (hsat : s.lookupSat s.tgtGrays = some s1)
    (hconv : s1.lookupConv s.tgtGrays s.srcGrays = none) : k.lookups s = .error s1 := by
  simp only [Kernel.lookups, hk, hsat, hconv]

theorem exec_of_lookups_error (hi : kernelOf i = some k) (hl : k.lookups s = .error s1) :
    exec i s = .next (s1.raiseStatus (-3) .tableCache) := by
  simp only [exec_of_kernelOf hi, runKernel, hl]

end

/-- `STATUS` after a failed lookup: `DONE`, status -3, kind `TableCacheExhausted`, no kernel (R224). -/
theorem State.statusWord_tableCache (s : State) : (s.raiseStatus (-3) .tableCache).statusWord = 0x0004FD02 := by
  rw [State.statusWord_raiseStatus]
  decide

/-- Settles O41, by the lookup that fails: the saturation lookup in the state as it is, or the conversion lookup in
the state that holds the saturation key. -/
theorem fullCacheEndsTheCommand : Obligations.FullCacheEndsTheCommand := by
  intro s256 s
  refine ⟨fun hnew hfull i hi => ?_, fun (hsat : s.SatAvailable) hnew hfull => ?_⟩
  · have failed : s.lookupSat s.tgtGrays = none := (s.lookupSat_eq_none _).2 ⟨hnew, hfull⟩
    have kernel : ∃ k, kernelOf i = some k ∧ k.tables ≠ .none := by
      simp only [List.mem_cons, List.not_mem_nil, or_false] at hi
      rcases hi with rfl | rfl
      · exact ⟨kernelG2gSame, rfl, by decide⟩
      · exact ⟨kernelG2gConv, rfl, by decide⟩
    obtain ⟨k, hk, htables⟩ := kernel
    exact ⟨_, exec_of_lookups_error hk (Kernel.lookups_error_of_sat htables failed),
      State.statusWord_tableCache _, rfl, rfl⟩
  · have failed : ({ s with sat := s.satWithKey } : State).lookupConv s.tgtGrays s.srcGrays = none :=
      (State.lookupConv_eq_none _ _ _).2 ⟨hnew, hfull⟩
    exact ⟨_, exec_of_lookups_error (k := kernelG2gConv) rfl (Kernel.lookups_error_of_conv rfl hsat.lookupSat failed),
      State.statusWord_tableCache _, rfl, rfl⟩

/-! ### The caches only grow (R226) -/

/-- Each cache entry of `s` stands in its place in `t`. -/
def State.CachesGrow (s t : State) : Prop := s.sat <+: t.sat ∧ s.conv <+: t.conv

section
variable {s t u : State}

theorem State.CachesGrow.trans (hst : s.CachesGrow t) (htu : t.CachesGrow u) : s.CachesGrow u :=
  ⟨hst.1.trans htu.1, hst.2.trans htu.2⟩

theorem State.cachesGrow_of_eq (hsat : t.sat = s.sat) (hconv : t.conv = s.conv) : s.CachesGrow t :=
  ⟨hsat ▸ List.prefix_refl _, hconv ▸ List.prefix_refl _⟩

theorem State.cachesGrow_refl (s : State) : s.CachesGrow s := State.cachesGrow_of_eq rfl rfl

theorem State.cachesGrow_of_lookupSat {g : Count} (h : s.lookupSat g = some t) : s.CachesGrow t := by
  rcases State.lookupSat_eq_some h with ⟨-, rfl⟩ | ⟨-, -, rfl⟩
  · exact t.cachesGrow_refl
  · exact ⟨List.prefix_append _ _, List.prefix_refl _⟩

theorem State.cachesGrow_of_lookupConv {gt gs : Count} (h : s.lookupConv gt gs = some t) : s.CachesGrow t := by
  rcases State.lookupConv_eq_some h with ⟨-, rfl⟩ | ⟨-, -, rfl⟩
  · exact t.cachesGrow_refl
  · exact ⟨List.prefix_refl _, List.prefix_append _ _⟩

/-- A kernel's lookups, successful or not, only append. -/
theorem Kernel.lookups_cachesGrow {k : Kernel} (h : k.lookups s = .ok t ∨ k.lookups s = .error t) :
    s.CachesGrow t := by
  cases ht : k.tables <;> simp only [Kernel.lookups, ht] at h
  case none =>
    simp only [Except.ok.injEq, reduceCtorEq, or_false] at h
    exact h ▸ s.cachesGrow_refl
  case sat =>
    cases hs : s.lookupSat s.tgtGrays <;>
      simp only [hs, Except.ok.injEq, Except.error.injEq, reduceCtorEq, or_false, false_or] at h <;> subst h
    · exact s.cachesGrow_refl
    · exact State.cachesGrow_of_lookupSat hs
  case satConv =>
    cases hs : s.lookupSat s.tgtGrays with
    | none =>
      simp only [hs, Except.error.injEq, reduceCtorEq, false_or] at h
      exact h ▸ s.cachesGrow_refl
    | some s1 =>
      have grown := State.cachesGrow_of_lookupSat hs
      cases hc : s1.lookupConv s.tgtGrays s.srcGrays <;>
        simp only [hs, hc, Except.ok.injEq, Except.error.injEq, reduceCtorEq, or_false, false_or] at h <;> subst h
      · exact grown
      · exact grown.trans (State.cachesGrow_of_lookupConv hc)

theorem State.cachesGrow_frontEnd (s : State) : s.CachesGrow s.frontEnd := by
  rcases s.frontEnd_cases with ⟨-, e⟩ | ⟨-, -, e⟩ | ⟨c, -, -, -, e⟩ <;> rw [e] <;>
    exact State.cachesGrow_of_eq rfl rfl

theorem execStart_cachesGrow (h : execStart s = .next t) : s.CachesGrow t := by
  cases hp : s.phase with
  | busy =>
    rw [execStart_busy hp] at h
    exact Host.Outcome.next.inj h ▸ s.cachesGrow_refl
  | idle =>
    rw [execStart_idle hp] at h
    exact Host.Outcome.next.inj h ▸ s.started.cachesGrow_frontEnd

/-- No instruction removes a cache entry: only a kernel's lookups touch the lists. -/
theorem exec_cachesGrow {i : Instr} (h : exec i s = .next t) : s.CachesGrow t := by
  rcases exec_next h with ⟨k, s1, -, hl, rfl⟩ | ⟨k, s1, -, hl, -, rfl⟩ | ⟨w, -, e⟩ | ⟨-, rfl | rfl | rfl | rfl⟩
  · exact Kernel.lookups_cachesGrow (t := s1) (.inr hl)
  · exact Kernel.lookups_cachesGrow (t := s1) (.inl hl)
  · exact execStart_cachesGrow e
  all_goals exact State.cachesGrow_of_eq rfl rfl

theorem State.cachesGrow_writeReg (s : State) (r : Reg) (v : Word) : s.CachesGrow (s.writeReg r v) := by
  unfold State.writeReg
  split <;> exact State.cachesGrow_of_eq rfl rfl

theorem State.cachesGrow_hostMemRead (s : State) (a : Nat) : s.CachesGrow (s.hostMemRead a) := by
  unfold State.hostMemRead
  split <;> exact State.cachesGrow_of_eq rfl rfl

end

/-- Settles O55, by what a step can do: run an instruction, `START` a command, or a host event, which leaves the lists
alone. -/
theorem onlyResetEmptiesTheCaches : Obligations.OnlyResetEmptiesTheCaches := by
  intro s t h hreset
  change s.CachesGrow t
  rcases step_cases h with ⟨i, l, d, n, -, -, e⟩ | ⟨w, l, e, -⟩ | ⟨l, d, n, rfl⟩ | ⟨l, r, v, rfl⟩ |
    ⟨l, a, v, -, rfl⟩ | ⟨l, a, -, rfl⟩ | ⟨l, hl, -⟩
  · exact exec_cachesGrow (s := s.aside l d n) e
  · exact execStart_cachesGrow (s := s.withSchedule l) e
  · exact State.cachesGrow_of_eq rfl rfl
  · exact (s.withSchedule l).cachesGrow_writeReg r v
  · exact State.cachesGrow_of_eq rfl rfl
  · exact (s.withSchedule l).cachesGrow_hostMemRead a
  · exact absurd hl (hreset l)

end Sys2Proof.Machine

/-! `START` of a command that is over at once, and the rows of the dispatch table that run no kernel (spec
45_dispatch.md R243, R245, R254 to R257): the row ends the command in one of four fixed outcomes, by the source format
and then by the target or the count. -/

namespace Sys2Proof.Machine

/-! ### `STATUS` after each of the four outcomes -/

section
variable (s : State)

theorem State.statusWord_argument : (s.raiseStatus (-1) .argument).statusWord = 0x0001FF02 := by
  rw [State.statusWord_raiseStatus]
  decide

theorem State.statusWord_targetDepth : (s.raiseStatus (-1) .targetDepth).statusWord = 0x0002FF02 := by
  rw [State.statusWord_raiseStatus]
  decide

theorem State.statusWord_sourceDepth : (s.raiseStatus (-2) .sourceDepth).statusWord = 0x0003FE02 := by
  rw [State.statusWord_raiseStatus]
  decide

theorem State.statusWord_noop : (s.finishOk true 0).statusWord = 0x00000006 := by
  rw [State.statusWord_finishOk]
  decide

end

/-! ### `START` -/

section
variable {s : State}

theorem exec_start_of_null (hp : s.phase = .idle) (h : s.srcBase = 0 ∨ s.tgtBase = 0) (w : BitVec 31) :
    exec (.start w) s = .next ((s.started.withCtx .zero).raiseStatus (-1) .argument) := by
  have null : s.started.nullBitmap = true := s.started.nullBitmap_eq_true.2 h
  rw [exec_start, execStart_idle hp]
  rcases s.started.frontEnd_cases with ⟨-, e⟩ | ⟨notNull, -, -⟩ | ⟨_, notNull, -, -, -⟩
  · rw [e]
  · exact absurd null (by simp [notNull])
  · exact absurd null (by simp [notNull])

/-- The size is examined before the clip, and either ends the command in the same way (R245, R246). -/
theorem exec_start_of_nothingToDraw (hp : s.phase = .idle) (hsrc : s.srcBase ≠ 0) (htgt : s.tgtBase ≠ 0)
    (h : (s.srcWidth = 0 ∨ s.srcHeight = 0) ∨ s.clip = none) (w : BitVec 31) :
    exec (.start w) s = .next ((s.started.withCtx .zero).finishOk true 0) := by
  rw [exec_start, execStart_idle hp]
  rcases s.started.frontEnd_cases with ⟨null, -⟩ | ⟨-, -, e⟩ | ⟨c, -, sized, clipped, -⟩
  · exact ((s.started.nullBitmap_eq_true.1 null).elim hsrc htgt).elim
  · rw [e]
  · rcases h with empty | outside
    · have zero : s.started.zeroSize = true := s.started.zeroSize_eq_true.2 empty
      exact absurd zero (by simp [sized])
    · exact absurd (clipped.symm.trans outside) (by simp)

/-- An error that `START` raises leaves an IDLE block IDLE. -/
theorem State.raiseStatus_started (hp : s.phase = .idle) (c : Ctx) (e : Int) (kind : ErrorKind) :
    (s.started.withCtx c).raiseStatus e kind =
      { s with
        regs := { s.regs with lastError := BitVec.ofInt 32 e }, status := ⟨true, false, BitVec.ofInt 8 e, kind, 0⟩
        ctx := c, ctxBefore := s.ctx, disturbed := false } := by
  simp only [State.raiseStatus, State.withCtx, State.started, hp]

theorem State.finishOk_started (hp : s.phase = .idle) (c : Ctx) (noop : Bool) (path : BitVec 5) :
    (s.started.withCtx c).finishOk noop path =
      { s with status := ⟨true, noop, 0, .none, path⟩, ctx := c, ctxBefore := s.ctx, disturbed := false } := by
  simp only [State.finishOk, State.withCtx, State.started, hp]

end

/-- Settles O14: the null check is the front end's first, so nothing else of the block is examined. -/
theorem nullBitmapIsAnArgumentError : Obligations.NullBitmapIsAnArgumentError := by
  intro s w hp h
  exact ⟨_, exec_start_of_null hp h w, State.statusWord_argument _, rfl, rfl, State.raiseStatus_started hp ..⟩

/-- Settles O15: the size is examined before the formats. -/
theorem zeroSizeSourceIsANoop : Obligations.ZeroSizeSourceIsANoop := by
  intro s w hp hsrc htgt h
  exact ⟨_, exec_start_of_nothingToDraw hp hsrc htgt (.inl h) w, State.statusWord_noop _,
    State.finishOk_started hp ..⟩

/-! ### The rows that run no kernel -/

section
variable {sf tf : Format} {tg2 sg2 : Bool} (geq s256 : Bool) (s : State)

/-- A format that is no source has one row for every target and count (R254). -/
theorem exec_dispatchRow_of_not_source (h : sf.isSource = false) (tf : Format) (tg2 sg2 : Bool) :
    exec (dispatchRow sf tf geq tg2 s256 sg2) s = .next (s.raiseStatus (-2) .sourceDepth) := by
  cases sf
  case mono | gray | lcdH | lcdHR | lcdV | lcdVR => exact absurd h (by decide)
  all_goals rfl

/-- The mono branch looks at the target alone (R249). -/
theorem exec_dispatchRow_mono_of_not_target (h : tf.isMonoTarget = false) (tg2 sg2 : Bool) :
    exec (dispatchRow .mono tf geq tg2 s256 sg2) s = .next (s.raiseStatus (-1) .targetDepth) := by
  cases tf
  case mono | pal4 | pal8 | gray | rgb555 | rgb565 | rgb24 | rgb32 => exact absurd h (by decide)
  all_goals rfl

/-- The gray branch with a valid source count: the target's own count matters for gray alone (R250). -/
theorem exec_dispatchRow_gray_of_not_target (hcolour : tf.isColourTarget = false) (hgray : tf = .gray → tg2 = false) :
    exec (dispatchRow .gray tf geq tg2 s256 true) s = .next (s.raiseStatus (-1) .targetDepth) := by
  cases tf
  case rgb555 | rgb565 | rgb24 | rgb32 => exact absurd hcolour (by decide)
  case gray =>
    obtain rfl := hgray rfl
    rfl
  all_goals rfl

/-- The gray branch tests the source count before the target (R250). -/
theorem exec_dispatchRow_gray_of_invalidCount (tf : Format) (tg2 : Bool) :
    exec (dispatchRow .gray tf geq tg2 s256 false) s = .next (s.raiseStatus (-1) .argument) := rfl

/-- The LCD branches test the source count for RGB24 (R251 to R253). -/
theorem exec_dispatchRow_lcd_of_invalidCount (h : sf.isLcd = true) (tg2 : Bool) :
    exec (dispatchRow sf .rgb24 geq tg2 s256 false) s = .next (s.raiseStatus (-1) .argument) := by
  rcases (Format.isLcd_iff sf).1 h with rfl | rfl | rfl | rfl <;> rfl

/-- The LCD branches test the target before the source count (R251 to R253). -/
theorem exec_dispatchRow_lcd_of_not_rgb24 (h : sf.isLcd = true) (htf : tf ≠ .rgb24) (tg2 sg2 : Bool) :
    exec (dispatchRow sf tf geq tg2 s256 sg2) s = .next (s.finishOk true 0) := by
  cases tf
  case rgb24 => exact absurd rfl htf
  all_goals rcases (Format.isLcd_iff sf).1 h with rfl | rfl | rfl | rfl <;> rfl

end

/-- Settles O44: the source format alone selects the row. -/
theorem unsupportedSourceRows : Obligations.UnsupportedSourceRows := by
  intro sf tf geq tg2 s256 sg2 s h
  exact ⟨_, exec_dispatchRow_of_not_source geq s256 s h tf tg2 sg2, s.statusWord_sourceDepth, rfl, rfl⟩

/-- Settles O45, for the mono branch and for the gray branch. -/
theorem unsupportedTargetRows : Obligations.UnsupportedTargetRows := by
  rintro sf tf geq tg2 s256 sg2 s (⟨rfl, htf⟩ | ⟨rfl, rfl, hcolour, hgray⟩)
  · exact ⟨_, exec_dispatchRow_mono_of_not_target geq s256 s htf tg2 sg2, s.statusWord_targetDepth, rfl, rfl⟩
  · exact ⟨_, exec_dispatchRow_gray_of_not_target geq s256 s hcolour hgray, s.statusWord_targetDepth, rfl, rfl⟩

/-- Settles O46, for a gray source and for an LCD source. -/
theorem invalidCountRows : Obligations.InvalidCountRows := by
  rintro sf tf geq tg2 s256 s (rfl | ⟨hsf, rfl⟩)
  · exact ⟨_, exec_dispatchRow_gray_of_invalidCount geq s256 s tf tg2, s.statusWord_argument, rfl, rfl⟩
  · exact ⟨_, exec_dispatchRow_lcd_of_invalidCount geq s256 s hsf tg2, s.statusWord_argument, rfl, rfl⟩

/-- Settles O47: in each LCD branch the target alone selects the row. -/
theorem lcdMismatchRowsAreNoops : Obligations.LcdMismatchRowsAreNoops := by
  intro sf tf geq tg2 s256 sg2 s hsf htf
  exact ⟨_, exec_dispatchRow_lcd_of_not_rgb24 geq s256 s hsf htf tg2 sg2, s.statusWord_noop, rfl⟩

end Sys2Proof.Machine

/-! The exceptions (spec 60_exceptions.md R273, R276): the bus fault names the lowest unadmitted address of the access
set, and a command that ends with a non-zero status has left memory alone. -/

namespace Sys2Proof.Machine

/-! ### The bus fault (R276) -/

section
variable {k : Kernel} {s s1 : State}

/-- The admission check after the lookups is that of the command: it sees no cache list. -/
theorem Kernel.lowestUnadmitted_of_lookups (hl : k.lookups s = .ok s1) :
    lowestUnadmitted s1.params (k.accessSet s1) = lowestUnadmitted s.params (k.accessSet s) := by
  rw [Kernel.lookups_changes_caches_only k s s1 (.inl hl)]
  rfl

theorem runKernel_of_unadmitted {a : Int} (hl : k.lookups s = .ok s1)
    (ha : lowestUnadmitted s.params (k.accessSet s) = some a) : runKernel k s = .fault (.busFault a) := by
  simp only [runKernel, hl, Kernel.lowestUnadmitted_of_lookups hl, ha]

end

/-- Settles O25: the lookups leave the access set as it was, and its lowest unadmitted address ends the command. -/
theorem unadmittedAddressIsABusFault : Obligations.UnadmittedAddressIsABusFault := by
  intro i k s s1 a hi hl hmem hnot hlowest
  have lowest : lowestUnadmitted s.params (k.accessSet s) = some a :=
    (lowestUnadmitted_eq_some _ _ _).2 ⟨⟨hmem, hnot⟩, hlowest⟩
  rw [exec_of_kernelOf hi, runKernel_of_unadmitted hl lowest]

/-! ### Non-zero status (R273) -/

/-- Between `s` and `t` nothing but `LAST_ERROR`, `STATUS`, `CTX_*` and the command state may differ, with the model's own
records of them; the saturation list is now `sat`. -/
def State.WroteNoMemory (s t : State) (sat : List Count) : Prop :=
  t = { s with
    regs := { s.regs with lastError := t.regs.lastError }, status := t.status, ctx := t.ctx
    ctxBefore := t.ctxBefore, phase := t.phase, disturbed := t.disturbed, sat := sat }

section
variable {s t : State}

theorem State.WroteNoMemory.sat_eq {sat : List Count} (h : s.WroteNoMemory t sat) : t.sat = sat := congrArg State.sat h

theorem State.WroteNoMemory.own_sat {sat : List Count} (h : s.WroteNoMemory t sat) : s.WroteNoMemory t t.sat :=
  h.sat_eq.symm ▸ h

theorem State.wroteNoMemory_raiseStatus (s : State) (sat : List Count) (code : Int) (kind : ErrorKind) :
    s.WroteNoMemory (({ s with sat := sat } : State).raiseStatus code kind) sat := rfl

/-- No outcome of `START` writes memory or looks up a table: the checks, the clip and the key come first (R240). -/
theorem execStart_wroteNoMemory (h : execStart s = .next t) : s.WroteNoMemory t s.sat := by
  cases hp : s.phase with
  | busy =>
    rw [execStart_busy hp] at h
    obtain rfl := Host.Outcome.next.inj h
    rfl
  | idle =>
    rw [execStart_idle hp] at h
    obtain rfl := Host.Outcome.next.inj h
    rcases s.started.frontEnd_cases with ⟨-, e⟩ | ⟨-, -, e⟩ | ⟨c, -, -, -, e⟩ <;> rw [e] <;> rfl

/-- All that failed lookups can leave behind is the saturation key, inserted before a conversion lookup failed (R227). -/
theorem Kernel.lookups_error {k : Kernel} (h : k.lookups s = .error t) :
    t = s ∨ (k.tables = .satConv ∧ t = { s with sat := s.sat ++ [s.tgtGrays] }) := by
  cases ht : k.tables <;> simp only [Kernel.lookups, ht] at h
  case none => cases h
  case sat =>
    cases hs : s.lookupSat s.tgtGrays <;> rw [hs] at h <;> cases h
    exact .inl rfl
  case satConv =>
    cases hs : s.lookupSat s.tgtGrays with
    | none =>
      rw [hs] at h
      cases h
      exact .inl rfl
    | some s1 =>
      cases hc : s1.lookupConv s.tgtGrays s.srcGrays <;> simp only [hs, hc] at h <;> cases h
      rcases State.lookupSat_eq_some hs with ⟨-, e⟩ | ⟨-, -, e⟩
      · exact .inl e
      · exact .inr ⟨rfl, e⟩

/-- Only `G2G_CONV` looks up both tables. -/
theorem kernelOf_satConv {i : Instr} {k : Kernel} (hi : kernelOf i = some k) (hk : k.tables = .satConv) :
    ∃ s256, i = .g2gConv s256 := by
  cases i
  case g2gConv s256 => exact ⟨s256, rfl⟩
  all_goals cases hi <;> cases hk

/-- An instruction that leaves a non-zero status wrote no memory: a kernel that runs its pixel loop ends with 0. -/
theorem exec_wroteNoMemory {i : Instr} (h : exec i s = .next t) (hc : t.status.code ≠ 0) :
    s.WroteNoMemory t s.sat ∨
      (s.WroteNoMemory t (s.sat ++ [s.tgtGrays]) ∧ ∃ s256, i = .g2gConv s256) := by
  rcases exec_next h with ⟨k, s1, hi, hl, rfl⟩ | ⟨k, s1, -, -, -, rfl⟩ | ⟨w, -, e⟩ | ⟨-, rfl | rfl | rfl | rfl⟩
  · rcases Kernel.lookups_error hl with rfl | ⟨hk, rfl⟩
    · exact .inl (s1.wroteNoMemory_raiseStatus ..)
    · exact .inr ⟨s.wroteNoMemory_raiseStatus .., kernelOf_satConv hi hk⟩
  · exact absurd rfl hc
  · exact .inl (execStart_wroteNoMemory e)
  · exact .inl (s.wroteNoMemory_raiseStatus ..)
  · exact .inl (s.wroteNoMemory_raiseStatus ..)
  · exact .inl (s.wroteNoMemory_raiseStatus ..)
  · exact absurd rfl hc

end

/-- Settles O53, by what an instruction can do: fail a lookup, `START`, or end in a fixed error. -/
theorem failingCommandsWriteNoMemory : Obligations.FailingCommandsWriteNoMemory := by
  intro i s t h hc
  rcases exec_wroteNoMemory h hc with kept | ⟨inserted, hconv⟩
  · exact ⟨kept.own_sat, .inl kept.sat_eq⟩
  · exact ⟨inserted.own_sat, .inr ⟨inserted.sat_eq, hconv⟩⟩

end Sys2Proof.Machine

/-! Reset (spec 70_reset_and_hazards.md R290, R292): what the registers read in the reset state (10_state.md R41), and
what the platform's reset input does to the block, to the target span of a command in progress, and to the rest of
memory. -/

namespace Sys2Proof.Machine

/-! ### The registers of the reset state (10_state.md R41) -/

theorem State.statusWord_resetWith (p : Params) : (State.resetWith p).statusWord = 0 := by
  simp only [State.statusWord, State.resetWith_status, State.resetWith_phase]
  decide

theorem State.readReg_resetWith (p : Params) {r : Reg} (h : r ≠ .cacheInfo) : (State.resetWith p).readReg r = 0 := by
  cases r
  case cacheInfo => exact absurd rfl h
  case status => exact State.statusWord_resetWith p
  all_goals rfl

/-- A word is its four bytes, in place value. -/
theorem Word.toNat_eq_bytes (w : Word) : w.toNat = (w.extractLsb' 24 8).toNat * 2 ^ 24 +
    (w.extractLsb' 16 8).toNat * 2 ^ 16 + (w.extractLsb' 8 8).toNat * 2 ^ 8 + (w.extractLsb' 0 8).toNat := by
  have := w.isLt
  simp only [BitVec.extractLsb'_toNat, Nat.shiftRight_eq_div_pow]
  omega

/-- With empty caches `CACHE_INFO` shows the caps alone. -/
theorem State.toNat_readReg_cacheInfo_resetWith {p : Params} (h : p.legal = true) :
    ((State.resetWith p).readReg .cacheInfo).toNat = p.convCap * 2 ^ 24 + p.satCap * 2 ^ 16 := by
  obtain ⟨hsat, hconv⟩ := Params.caps_lt_of_legal h
  obtain ⟨e0, e8, e16, e24⟩ := cacheInfoWord_fields p [] []
  have word : (State.resetWith p).readReg .cacheInfo = cacheInfoWord p [] [] := rfl
  rw [word, Word.toNat_eq_bytes, e0, e8, e16, e24, BitVec.toNat_ofNat, BitVec.toNat_ofNat, Nat.mod_eq_of_lt hsat,
    Nat.mod_eq_of_lt hconv]
  simp

/-! ### The bytes that reset frees (R292) -/

theorem holdsByte_nonneg {p : Params} {a : Int} (h : holdsByte p a = true) : 0 ≤ a := by
  simp only [holdsByte, Bool.and_eq_true, decide_eq_true_eq] at h
  exact h.1

/-- No command is in progress while IDLE (10_state.md R38). -/
theorem State.pendingTarget_idle {s : State} (h : s.phase = .idle) : s.pendingTarget = [] := by
  simp only [State.pendingTarget, State.pendingKernel, h]

/-- The target span of the command in progress, as far as it lies in the memory space: what reset frees. -/
def State.abandoned (s : State) : List Int := s.pendingTarget.filter (holdsByte s.params)

theorem State.abandoned_nonneg {s : State} {a : Int} (h : a ∈ s.abandoned) : 0 ≤ a :=
  holdsByte_nonneg (List.mem_filter.1 h).2

theorem State.pendingTarget_of_mem_abandoned {s : State} {a : Int} (h : a ∈ s.abandoned) : a ∈ s.pendingTarget :=
  (List.mem_filter.1 h).1

theorem State.abandoned_idle {s : State} (h : s.phase = .idle) : s.abandoned = [] := by
  rw [State.abandoned, State.pendingTarget_idle h, List.filter_nil]

/-! ### The block after reset (R290) -/

section
variable (s : State)

theorem State.resetBlock_mem : s.resetBlock.mem = (s.canvas.scrambleAll s.abandoned).mem := rfl

theorem State.resetBlock_draws : s.resetBlock.draws = (s.canvas.scrambleAll s.abandoned).draws := rfl

/-- Reset sees no schedule: the events still to come stay as they are. -/
theorem State.resetBlock_withSchedule (l : List Event) :
    (s.withSchedule l).resetBlock = s.resetBlock.withSchedule l := by
  have span : (s.withSchedule l).pendingTarget = s.pendingTarget := by
    rw [State.withSchedule_eq_aside, State.pendingTarget_aside]
  simp only [State.resetBlock, span, State.withSchedule_params]
  rfl

/-- Memory, the schedule, the host's data and the count of free values are all that reset does not set, and no register
shows them. -/
theorem State.readReg_resetBlock (r : Reg) : s.resetBlock.readReg r = (State.resetWith s.params).readReg r := by
  cases r <;> rfl

/-- Outside the target span of the command in progress memory keeps its bytes. -/
theorem State.read_resetBlock_other {n : Nat} (h : (n : Int) ∉ s.pendingTarget) :
    Memory.read s.resetBlock.mem n = Memory.read s.mem n :=
  Canvas.read_scrambleAll_other _ _ _ (fun _ => State.abandoned_nonneg)
    fun hn => h (State.pendingTarget_of_mem_abandoned hn)

theorem State.resetBlock_mem_idle {s : State} (h : s.phase = .idle) : s.resetBlock.mem = s.mem := by
  rw [State.resetBlock_mem, State.abandoned_idle h]
  rfl

end

theorem step_reset {s : State} {rest : List Event} (h : s.schedule = .reset :: rest) :
    step s = .next (s.resetBlock.withSchedule rest) := by
  have done : turn s = .done (.next (s.withSchedule rest).resetBlock) := by simp only [turn, h]
  rw [step_of_turn_done done, State.resetBlock_withSchedule]

/-- Settles O57: the registers are those of the reset state, and memory is the old one with the abandoned bytes freed. -/
theorem resetInputResetsTheBlock : Obligations.ResetInputResetsTheBlock := by
  intro s rest hs
  have regs : ∀ r, (s.resetBlock.withSchedule rest).readReg r = (State.resetWith s.params).readReg r :=
    s.readReg_resetBlock
  have freed : s.Freed (s.resetBlock.withSchedule rest) s.abandoned :=
    State.freed_of_scrambleAll s.resetBlock_mem s.resetBlock_draws
  refine ⟨s.resetBlock.withSchedule rest, step_reset hs, rfl, rfl, rfl, rfl, fun r hr => ?_, fun hp => ?_,
    State.resetBlock_mem_idle, freed, fun n => s.read_resetBlock_other⟩
  · rw [regs, State.readReg_resetWith _ hr]
  · rw [regs, State.toNat_readReg_cacheInfo_resetWith hp]

end Sys2Proof.Machine

/-! The encoder, the decoder and the dispatch table (spec 30_encoding.md R101 to R104): every row is encoded to the key
that selects it, and no other row selects that key; and the gray branch (45_dispatch.md R250). -/

namespace Sys2Proof

/-! ### The row of a key is encoded back to that key -/

section
variable (tf : Format) (geq tg2 s256 sg2 : Bool)

/-- The row of a gray source encodes to its key: the count bits that a row leaves out are those it fixes. -/
theorem encode_grayBranch : encode (grayBranch tf geq tg2 s256 sg2) = .key (keyOf .gray tf geq tg2 s256 sg2) := by
  cases sg2
  case false => rfl
  case true =>
    cases tf
    case gray => cases tg2 <;> cases geq <;> rfl
    case rgb555 | rgb565 | rgb24 | rgb32 => cases s256 <;> rfl
    all_goals rfl

/-- Every row of the dispatch table encodes to the key that selects it. -/
theorem encode_dispatchRow (sf : Format) :
    encode (dispatchRow sf tf geq tg2 s256 sg2) = .key (keyOf sf tf geq tg2 s256 sg2) := by
  cases sf
  case gray => exact encode_grayBranch ..
  case mono => cases tf <;> rfl
  case lcdH | lcdHR | lcdV | lcdVR =>
    cases tf
    case rgb24 => cases sg2 <;> cases s256 <;> rfl
    all_goals rfl
  all_goals rfl

end

/-- An instruction is `START`, or the row of the key it encodes to. -/
theorem Instr.eq_start_or_dispatchRow (i : Instr) : (∃ w, i = .start w) ∨
    ∃ sf tf geq tg2 s256 sg2, i = dispatchRow sf tf geq tg2 s256 sg2 ∧
      encode i = .key (keyOf sf tf geq tg2 s256 sg2) := by
  cases i
  case start w => exact .inl ⟨w, rfl⟩
  all_goals exact .inr ⟨_, _, _, _, _, _, rfl, rfl⟩

/-! ### Words of the decoder's two kinds -/

/-- A key with bits 15:12 = 0 is made of its fields. -/
theorem keyOf_fields {k : Key} (h : k.extractLsb' 12 4 = 0) :
    keyOf (.ofCode (k.extractLsb' 0 4)) (.ofCode (k.extractLsb' 4 4)) (k.getLsbD 11) (k.getLsbD 10) (k.getLsbD 9)
      (k.getLsbD 8) = k := by
  have reserved : ∀ j < 4, k.getLsbD (12 + j) = false := fun j hj => by
    have bit := congrArg (·.getLsbD j) h
    simpa [hj] using bit
  refine BitVec.eq_of_getLsbD_eq fun i hi => ?_
  rw [keyOf_getLsbD, Format.code_ofCode, Format.code_ofCode]
  obtain format | count | high : i < 8 ∨ (8 ≤ i ∧ i < 12) ∨ 12 ≤ i := by omega
  · by_cases low : i < 4
    · simp [low]
    · have second : i - 4 < 4 := by omega
      have place : 4 + (i - 4) = i := by omega
      simp [low, second, place]
  · obtain ⟨low, high⟩ := count
    interval_cases i <;> simp
  · have bit := reserved (i - 12) (by omega)
    rw [Nat.add_sub_cancel' high] at bit
    rw [bit]
    interval_cases i <;> simp

/-- A word written to `CTRL` with bit 0 set is made of its upper bits (10_state.md R22). -/
theorem append_upper_bits {w : Word} (h : w.getLsbD 0 = true) : (w.extractLsb' 1 31 ++ 1#1 : BitVec 32) = w := by
  refine BitVec.eq_of_getLsbD_eq fun i hi => ?_
  have bits : (w.extractLsb' 1 31 ++ 1#1 : BitVec 32).getLsbD i = (w.extractLsb' 1 31 ++ 1#1).getLsbD i := rfl
  rw [bits, BitVec.getLsbD_append]
  cases i with
  | zero => simpa using h.symm
  | succ i =>
    have upper : i < 31 := by omega
    simp [upper, Nat.add_comm]

theorem decodeCtrl_append (rsv : BitVec 31) : decodeCtrl (rsv ++ 1#1) = .ok (.start rsv) := by
  have low : (rsv ++ 1#1).getLsbD 0 = true := by
    rw [BitVec.getLsbD_append]
    rfl
  have upper : (rsv ++ 1#1).extractLsb' 1 31 = rsv := by
    rw [BitVec.extractLsb'_append_eq_of_le (by decide), BitVec.extractLsb'_eq_self]
  unfold decodeCtrl
  exact (if_pos low).trans (congrArg (Except.ok ∘ Instr.start) upper)

/-! ### Decode and encode -/

theorem decode_encode (i : Instr) : decode (encode i) = .ok i := by
  rcases i.eq_start_or_dispatchRow with ⟨w, rfl⟩ | ⟨sf, tf, geq, tg2, s256, sg2, rfl, key⟩
  · exact decodeCtrl_append w
  · rw [key]
    exact decodeKey_keyOf ..

theorem encode_of_decode {c : Code} {i : Instr} (h : decode c = .ok i) : encode i = c := by
  cases c with
  | key k =>
    simp only [decode, decodeKey] at h
    split_ifs at h with reserved
    cases h
    rw [encode_dispatchRow, keyOf_fields reserved]
  | ctrl w =>
    simp only [decode, decodeCtrl] at h
    split_ifs at h with start
    cases h
    exact congrArg Code.ctrl (append_upper_bits start)

/-- Settles O1: an instruction's row is that of its key, and a word is made of the fields the decoder reads. -/
theorem decodeAndEncodeAgree : Obligations.DecodeAndEncodeAgree :=
  ⟨decode_encode, fun _ _ => encode_of_decode⟩

/-! ### The rows of the dispatch table (30_encoding.md R101, R104) -/

open Laws.InItsRow in
/-- The word of every instruction lies in the instruction's row. -/
theorem encode_in_its_row (i : Instr) : Statement i :=
  Instr.rec (motive := Statement)
    m2m m2p4 m2p8 m2g8 m2r555 m2r565 m2r24 m2r32 g2r555 g2r565 g2r24 g2r32 g8r555 g8r565 g8r24 g8r32 g2gSame g2gConv
    lcdh lcdh8 lcdhr lcdhr8 lcdv lcdvr errTgtMonoNone errTgtMonoLcdH errTgtMonoLcdHR errTgtMonoLcdV errTgtMonoLcdVR
    errTgtMonoRsv13 errTgtMonoRsv14 errTgtMonoRsv15 errTgtGrayNone errTgtGrayMono errTgtGrayPal4 errTgtGrayPal8
    errTgtGrayLcdH errTgtGrayLcdHR errTgtGrayLcdV errTgtGrayLcdVR errTgtGrayRsv13 errTgtGrayRsv14 errTgtGrayRsv15
    errTgtGrayBadcount errArgGrayAny errArgLcdHRgb24 errArgLcdHRRgb24 errArgLcdVRgb24 errArgLcdVRRgb24 noopLcdHNone
    noopLcdHMono noopLcdHPal4 noopLcdHPal8 noopLcdHGray noopLcdHLcdH noopLcdHLcdHR noopLcdHLcdV noopLcdHLcdVR
    noopLcdHRgb555 noopLcdHRgb565 noopLcdHRgb32 noopLcdHRsv13 noopLcdHRsv14 noopLcdHRsv15 noopLcdHRNone noopLcdHRMono
    noopLcdHRPal4 noopLcdHRPal8 noopLcdHRGray noopLcdHRLcdH noopLcdHRLcdHR noopLcdHRLcdV noopLcdHRLcdVR
    noopLcdHRRgb555 noopLcdHRRgb565 noopLcdHRRgb32 noopLcdHRRsv13 noopLcdHRRsv14 noopLcdHRRsv15 noopLcdVNone
    noopLcdVMono noopLcdVPal4 noopLcdVPal8 noopLcdVGray noopLcdVLcdH noopLcdVLcdHR noopLcdVLcdV noopLcdVLcdVR
    noopLcdVRgb555 noopLcdVRgb565 noopLcdVRgb32 noopLcdVRsv13 noopLcdVRsv14 noopLcdVRsv15 noopLcdVRNone noopLcdVRMono
    noopLcdVRPal4 noopLcdVRPal8 noopLcdVRGray noopLcdVRLcdH noopLcdVRLcdHR noopLcdVRLcdV noopLcdVRLcdVR
    noopLcdVRRgb555 noopLcdVRRgb565 noopLcdVRRgb32 noopLcdVRRsv13 noopLcdVRRsv14 noopLcdVRRsv15 errSrcNoneAny
    errSrcPal4Any errSrcPal8Any errSrcRgb555Any errSrcRgb565Any errSrcRgb24Any errSrcRgb32Any errSrcRsv13Any
    errSrcRsv14Any errSrcRsv15Any start i

/-- The rows differ in a bit that both fix. -/
abbrev KeyRow.Apart (q r : KeyRow) : Prop := q.pattern &&& r.mask ≠ r.pattern &&& q.mask

theorem KeyRow.apart_symm : Std.Symm KeyRow.Apart := ⟨fun _ _ h e => h e.symm⟩

theorem dispatchTable_apart : dispatchTable.Pairwise KeyRow.Apart := by decide +kernel

/-- Rows that select one key agree in the bits that both fix. -/
theorem KeyRow.agree_of_selects {q r : KeyRow} {k : Key} (hq : q.selects k = true) (hr : r.selects k = true) :
    q.pattern &&& r.mask = r.pattern &&& q.mask := by
  simp only [KeyRow.selects, beq_iff_eq] at hq hr
  rw [← hq, ← hr, BitVec.and_assoc, BitVec.and_assoc, BitVec.and_comm q.mask]

theorem dispatchTable_unique {q r : KeyRow} {k : Key} (hq : q ∈ dispatchTable) (hr : r ∈ dispatchTable)
    (hqk : q.selects k = true) (hrk : r.selects k = true) : q = r := by
  by_contra different
  have symm := KeyRow.apart_symm
  exact dispatchTable_apart.forall hq hr different (KeyRow.agree_of_selects hqk hrk)

/-- Settles O2: the key of an instruction lies in the instruction's row, and no other row agrees with that one. -/
theorem everyKeyMatchesOneRow : Obligations.EveryKeyMatchesOneRow := by
  intro k reserved
  obtain ⟨i, hi⟩ := (decodeKey_isOk_iff k).2 reserved
  have row := encode_in_its_row i
  rw [Laws.InItsRow.Statement, encode_of_decode (c := .key k) hi] at row
  obtain ⟨r, hr, name, selects⟩ := row
  exact ⟨r, hr, selects, fun q hq hqk => dispatchTable_unique hq hr hqk selects, i, hi, name.symm⟩

/-- Settles O5, word by word. -/
theorem specWordsDecode : Obligations.SpecWordsDecode :=
  ⟨rfl, rfl, rfl, rfl, rfl, rfl, rfl, rfl⟩

end Sys2Proof

namespace Sys2Proof.Machine

/-! ### The gray branch (45_dispatch.md R250) -/

/-- The kernel of a gray source of valid count for a colour target: one of 13 to 16 at 256 levels, of 9 to 12 at
others. -/
theorem kernelOf_grayBranch_of_colour {tf : Format} (h : tf.isColourTarget = true) (geq tg2 s256 : Bool) :
    ∃ k, kernelOf (grayBranch tf geq tg2 s256 true) = some k ∧ k.sf = .gray ∧ k.tf = tf ∧
      if s256 = true then 13 ≤ k.id.toNat ∧ k.id.toNat ≤ 16 else 9 ≤ k.id.toNat ∧ k.id.toNat ≤ 12 := by
  cases tf
  case rgb555 | rgb565 | rgb24 | rgb32 => cases s256 <;> exact ⟨_, rfl, rfl, rfl, by decide⟩
  all_goals exact absurd h (by decide)

/-- The other targets of a gray source have an error row each. -/
theorem grayBranch_of_not_target {tf : Format} (hgray : tf ≠ .gray) (hcolour : tf.isColourTarget ≠ true)
    (geq tg2 s256 : Bool) : ∃ a b c,
      let i := grayBranch tf geq tg2 s256 true
      i = .errTgtGrayNone a b c ∨ i = .errTgtGrayMono a b c ∨ i = .errTgtGrayPal4 a b c ∨ i = .errTgtGrayPal8 a b c ∨
        i = .errTgtGrayLcdH a b c ∨ i = .errTgtGrayLcdHR a b c ∨ i = .errTgtGrayLcdV a b c ∨
        i = .errTgtGrayLcdVR a b c ∨ i = .errTgtGrayRsv13 a b c ∨ i = .errTgtGrayRsv14 a b c ∨
        i = .errTgtGrayRsv15 a b c := by
  refine ⟨geq, tg2, s256, ?_⟩
  cases tf
  case gray => exact absurd rfl hgray
  case rgb555 | rgb565 | rgb24 | rgb32 => exact absurd rfl hcolour
  all_goals simp [grayBranch]

/-- Settles O6: the row of a gray source, by the tests of the gray branch in their order. -/
theorem graySourcesTakeTheGrayBranch : Obligations.GraySourcesTakeTheGrayBranch := by
  intro s hsf
  refine ⟨_, s.decodeKey_formKey, ?_⟩
  rw [hsf]
  cases validCount s.srcGrays
  case false => exact ⟨_, _, _, _, rfl⟩
  rw [if_neg (by decide)]
  by_cases gray : s.tgtFormat = .gray
  · rw [if_pos gray, gray]
    cases validCount s.tgtGrays
    case false => exact ⟨_, _, rfl⟩
    rw [if_neg (by decide)]
    by_cases same : s.srcGrays = s.tgtGrays
    · rw [if_pos same, same, beq_self_eq_true]
      exact ⟨_, rfl⟩
    · rw [if_neg same, beq_eq_false_iff_ne.2 same]
      exact ⟨_, rfl⟩
  · rw [if_neg gray]
    by_cases colour : s.tgtFormat.isColourTarget = true
    · rw [if_pos colour]
      have levels : s.srcGrays.toNat = 256 ↔ (s.srcGrays == 256#9) = true := (count_beq_iff s.srcGrays 256#9).symm
      simp only [levels]
      exact kernelOf_grayBranch_of_colour colour ..
    · rw [if_neg colour]
      exact grayBranch_of_not_target gray colour ..

end Sys2Proof.Machine

/-! The invariant (spec 10_state.md, 44_lut_cache.md R220, R225, 60_exceptions.md R270): each part of the state has a
well-formedness of its own that every operation on that part keeps; the invariant puts them together, and a step keeps
it because it is made of these operations. -/

namespace Sys2Proof.Machine

/-! ### Memory inside the memory space (20_memory.md R60) -/

/-- Memory is in canonical form and lists bytes of the memory space only. -/
structure Memory.Within (p : Params) (m : List Host.Cell) : Prop where
  canonical : Memory.wf m = true
  space : ∀ cell ∈ m, cell.1 < 2 ^ p.addrW

section
variable {p : Params} {m : List Host.Cell}

theorem Memory.within_nil (p : Params) : Memory.Within p [] := ⟨rfl, nofun⟩

theorem Memory.Within.write (h : Memory.Within p m) {a : Nat} (ha : a < 2 ^ p.addrW) (v : Byte) :
    Memory.Within p (Memory.write m a v) where
  canonical := Memory.wf_write m a v h.canonical
  space cell hcell := (Memory.mem_write m a v cell hcell).elim (h.space cell) fun e => e ▸ ha

theorem Memory.Within.scrambleAll {c : Canvas} (h : Memory.Within p c.mem) {l : List Int}
    (hl : ∀ a ∈ l, a.toNat < 2 ^ p.addrW) : Memory.Within p (c.scrambleAll l).mem where
  canonical := Canvas.wf_scrambleAll l c h.canonical
  space cell hcell := (Canvas.mem_scrambleAll l c cell hcell).elim (h.space cell) fun ⟨a, ha, e⟩ => e ▸ hl a ha

theorem Memory.Within.composite {s : State} {k : Kernel} (h : Memory.Within s.params s.mem)
    (ha : ∀ a ∈ k.accessSet s, admits s.params a = true) : Memory.Within s.params (k.composite s).mem where
  canonical := Kernel.wf_composite k s h.canonical
  space cell hcell := (Kernel.mem_composite k s cell hcell).elim (h.space cell) fun ⟨a, hspan, e⟩ =>
    e ▸ admits_lt (ha a (List.mem_append_right _ hspan))

end

/-! ### Reserved bits of the registers (10_state.md R26, R29) -/

/-- Reserved bits of the bases and the modes are 0. -/
structure Regs.Wf (p : Params) (g : Regs) : Prop where
  srcBase : g.srcBase.toNat < 2 ^ p.addrW
  tgtBase : g.tgtBase.toNat < 2 ^ p.addrW
  srcMode : g.srcMode &&& ~~~modeMask = 0
  tgtMode : g.tgtMode &&& ~~~modeMask = 0

theorem Regs.wf_zero (p : Params) : Regs.Wf p .zero :=
  ⟨Nat.two_pow_pos _, Nat.two_pow_pos _, BitVec.zero_and, BitVec.zero_and⟩

theorem toNat_and_baseMask_lt (p : Params) (v : Word) : (v &&& baseMask p).toNat < 2 ^ p.addrW := by
  have mask : (baseMask p).toNat ≤ 2 ^ p.addrW - 1 := Nat.mod_le _ _
  have bound : (v &&& baseMask p).toNat ≤ (baseMask p).toNat := by
    rw [BitVec.toNat_and]
    exact Nat.and_le_right
  have pos := Nat.two_pow_pos p.addrW
  omega

theorem and_modeMask_reserved (v : Word) : v &&& modeMask &&& ~~~modeMask = 0 := by
  rw [BitVec.and_assoc, BitVec.and_not_self]
  exact BitVec.and_zero

/-- A host write masks the bases and the modes, and leaves the others. -/
theorem Regs.Wf.write {p : Params} {g : Regs} (h : g.Wf p) (r : Reg) (v : Word) : (g.write p r v).Wf p := by
  cases r
  case srcBase => exact { h with srcBase := toNat_and_baseMask_lt p v }
  case tgtBase => exact { h with tgtBase := toNat_and_baseMask_lt p v }
  case srcMode => exact { h with srcMode := and_modeMask_reserved v }
  case tgtMode => exact { h with tgtMode := and_modeMask_reserved v }
  all_goals exact ⟨h.srcBase, h.tgtBase, h.srcMode, h.tgtMode⟩

theorem Regs.Wf.withLastError {p : Params} {g : Regs} (h : g.Wf p) (w : Word) :
    Regs.Wf p { g with lastError := w } := ⟨h.srcBase, h.tgtBase, h.srcMode, h.tgtMode⟩

/-! ### The cache lists (44_lut_cache.md R220, R225) -/

/-- The saturation list is bounded, holds a key once, and holds valid counts only. -/
structure SatWf (p : Params) (sat : List Count) : Prop where
  cap : sat.length ≤ p.satCap
  nodup : sat.Nodup
  valid : ∀ g ∈ sat, validCount g = true

/-- The conversion list is bounded, holds a key once, and holds pairs of different valid counts only. -/
structure ConvWf (p : Params) (conv : List (Count × Count)) : Prop where
  cap : conv.length ≤ p.convCap
  nodup : conv.Nodup
  valid : ∀ q ∈ conv, validCount q.1 = true ∧ validCount q.2 = true ∧ q.1 ≠ q.2

theorem SatWf.nil (p : Params) : SatWf p [] := ⟨Nat.zero_le _, List.nodup_nil, nofun⟩

theorem ConvWf.nil (p : Params) : ConvWf p [] := ⟨Nat.zero_le _, List.nodup_nil, nofun⟩

theorem SatWf.append {p : Params} {sat : List Count} (h : SatWf p sat) {g : Count} (new : g ∉ sat)
    (room : sat.length < p.satCap) (hg : validCount g = true) : SatWf p (sat ++ [g]) where
  cap := by simpa using room
  nodup := List.concat_eq_append ▸ h.nodup.concat new
  valid := by simpa [or_imp, forall_and, hg] using h.valid

theorem ConvWf.append {p : Params} {conv : List (Count × Count)} (h : ConvWf p conv) {q : Count × Count}
    (new : q ∉ conv) (room : conv.length < p.convCap)
    (hq : validCount q.1 = true ∧ validCount q.2 = true ∧ q.1 ≠ q.2) : ConvWf p (conv ++ [q]) where
  cap := by simpa using room
  nodup := List.concat_eq_append ▸ h.nodup.concat new
  valid r hr := (List.mem_append.1 hr).elim (h.valid r) fun e => List.mem_singleton.1 e ▸ hq

/-- The two lists of the table caches are well formed. -/
def State.CachesWf (s : State) : Prop := SatWf s.params s.sat ∧ ConvWf s.params s.conv

section
variable {k : Kernel} {s t : State}

theorem State.CachesWf.lookupSat (h : s.CachesWf) {g : Count} (hg : validCount g = true)
    (ht : s.lookupSat g = some t) : t.CachesWf := by
  rcases State.lookupSat_eq_some ht with ⟨-, rfl⟩ | ⟨new, room, rfl⟩
  · exact h
  · exact ⟨h.1.append new room hg, h.2⟩

theorem State.CachesWf.lookupConv (h : s.CachesWf) {gt gs : Count} (hgt : validCount gt = true)
    (hgs : validCount gs = true) (hne : gt ≠ gs) (ht : s.lookupConv gt gs = some t) : t.CachesWf := by
  rcases State.lookupConv_eq_some ht with ⟨-, rfl⟩ | ⟨new, room, rfl⟩
  · exact h
  · exact ⟨h.1, h.2.append new room ⟨hgt, hgs, hne⟩⟩

/-- What a kernel's lookups, successful or not, leave: the state as it was, with the saturation key, or with both. -/
theorem Kernel.lookups_inv (h : k.lookups s = .ok t ∨ k.lookups s = .error t) :
    t = s ∨ (k.tables ≠ .none ∧ s.lookupSat s.tgtGrays = some t) ∨
      (k.tables = .satConv ∧
        ∃ u, s.lookupSat s.tgtGrays = some u ∧ u.lookupConv s.tgtGrays s.srcGrays = some t) := by
  cases ht : k.tables <;> simp only [Kernel.lookups, ht] at h
  case none =>
    simp only [Except.ok.injEq, reduceCtorEq, or_false] at h
    exact .inl h.symm
  case sat =>
    cases hs : s.lookupSat s.tgtGrays <;>
      simp only [hs, Except.ok.injEq, Except.error.injEq, reduceCtorEq, or_false, false_or] at h <;> subst h
    · exact .inl rfl
    · exact .inr (.inl ⟨nofun, rfl⟩)
  case satConv =>
    cases hs : s.lookupSat s.tgtGrays with
    | none =>
      simp only [hs, Except.error.injEq, reduceCtorEq, false_or] at h
      exact .inl h.symm
    | some u =>
      cases hc : u.lookupConv s.tgtGrays s.srcGrays <;>
        simp only [hs, hc, Except.ok.injEq, Except.error.injEq, reduceCtorEq, or_false, false_or] at h <;> subst h
      · exact .inr (.inl ⟨nofun, rfl⟩)
      · exact .inr (.inr ⟨rfl, u, rfl, hc⟩)

/-- The counts of a command are such that its lookups insert valid keys only (45_dispatch.md R250). -/
structure Kernel.CountsValid (k : Kernel) (s : State) : Prop where
  tgt : k.tables ≠ .none → validCount s.tgtGrays = true
  src : k.tables ≠ .none → validCount s.srcGrays = true
  differ : k.tables = .satConv → s.tgtGrays ≠ s.srcGrays

theorem State.CachesWf.lookups (h : s.CachesWf) (hk : k.CountsValid s)
    (ht : k.lookups s = .ok t ∨ k.lookups s = .error t) : t.CachesWf := by
  rcases Kernel.lookups_inv ht with rfl | ⟨tables, hs⟩ | ⟨both, u, hs, hc⟩
  · exact h
  · exact h.lookupSat (hk.tgt tables) hs
  · have tables : k.tables ≠ .none := by simp [both]
    exact (h.lookupSat (hk.tgt tables) hs).lookupConv (hk.tgt tables) (hk.src tables) (hk.differ both) hc

end

/-! ### The part of the invariant that does not depend on the phase -/

/-- The state is well formed, but for the fields that tell how far a command is: `STATUS` and the phase. -/
structure State.Sound (s : State) : Prop where
  params : s.params.legal = true
  memory : Memory.Within s.params s.mem
  regs : s.regs.Wf s.params
  caches : s.CachesWf
  key : s.ctx.keyWf = true

section
variable {s : State}

theorem State.Inv.sound (h : s.Inv) : s.Sound where
  params := h.params
  memory := ⟨h.memory, h.space⟩
  regs := ⟨h.srcBase, h.tgtBase, h.srcMode, h.tgtMode⟩
  caches := ⟨⟨h.satCap, h.satNodup, h.satValid⟩, ⟨h.convCap, h.convNodup, h.convValid⟩⟩
  key := h.key

theorem State.Sound.inv (h : s.Sound) (status : s.status.wf = true) (busy : s.phase = .busy → s.Pending)
    (idle : s.phase = .idle → s.disturbed = false) : s.Inv where
  params := h.params
  memory := h.memory.canonical
  space := h.memory.space
  srcBase := h.regs.srcBase
  tgtBase := h.regs.tgtBase
  srcMode := h.regs.srcMode
  tgtMode := h.regs.tgtMode
  satCap := h.caches.1.cap
  satNodup := h.caches.1.nodup
  satValid := h.caches.1.valid
  convCap := h.caches.2.cap
  convNodup := h.caches.2.nodup
  convValid := h.caches.2.valid
  status := status
  key := h.key
  busy := busy
  idle := idle

theorem State.sound_resetWith {p : Params} (h : p.legal = true) : (State.resetWith p).Sound where
  params := h
  memory := Memory.within_nil p
  regs := Regs.wf_zero p
  caches := ⟨.nil p, .nil p⟩
  key := rfl

/-- Settles O50: at reset memory and the lists are empty, the registers 0, and the phase IDLE. -/
theorem resetMeetsTheInvariant : Obligations.ResetMeetsTheInvariant :=
  fun _ h => (State.sound_resetWith h).inv rfl nofun fun _ => rfl

/-! ### The operations of a command keep it -/

theorem State.Sound.withCtx (h : s.Sound) {c : Ctx} (hc : c.keyWf = true) : (s.withCtx c).Sound :=
  ⟨h.params, h.memory, h.regs, h.caches, hc⟩

theorem State.Sound.withCanvas (h : s.Sound) {c : Canvas} (hc : Memory.Within s.params c.mem) :
    (s.withCanvas c).Sound :=
  ⟨h.params, hc, h.regs, h.caches, h.key⟩

theorem State.Sound.started (h : s.Sound) : s.started.Sound :=
  ⟨h.params, h.memory, h.regs, h.caches, h.key⟩

theorem State.Sound.lookups (h : s.Sound) {k : Kernel} {t : State} (hk : k.CountsValid s)
    (ht : k.lookups s = .ok t ∨ k.lookups s = .error t) : t.Sound := by
  have caches := h.caches.lookups hk ht
  rw [Kernel.lookups_changes_caches_only k s t ht] at caches ⊢
  exact ⟨h.params, h.memory, h.regs, caches, h.key⟩

/-- A completed command leaves an IDLE block that meets the invariant. -/
theorem State.Sound.finishOk (h : s.Sound) {noop : Bool} {path : BitVec 5} (hpath : path.toNat ≤ 24)
    (hnoop : noop = true → path = 0) : (s.finishOk noop path).Inv := by
  refine State.Sound.inv ⟨h.params, h.memory, h.regs, h.caches, h.key⟩ ?_ nofun fun _ => rfl
  cases noop
  · have bound : path ≤ 24 := hpath
    exact (Bool.and_true _).trans (decide_eq_true bound)
  · simp [Status.wf, hnoop rfl]

/-- The errors of 60_exceptions.md R270. -/
def ErrorKind.Raises : ErrorKind → Int → Prop
  | .none, _ => False
  | .argument, e => e = -1
  | .targetDepth, e => e = -1
  | .sourceDepth, e => e = -2
  | .tableCache, e => e = -3

theorem State.Sound.raiseStatus (h : s.Sound) {e : Int} {kind : ErrorKind} (he : kind.Raises e) :
    (s.raiseStatus e kind).Inv := by
  refine State.Sound.inv ⟨h.params, h.memory, h.regs.withLastError _, h.caches, h.key⟩ ?_ nofun
    fun _ => rfl
  cases kind
  case none => exact he.elim
  all_goals
    obtain rfl := he
    rfl

end

/-! ### A step keeps it -/

section
variable {s t : State}

/-- An event aside touches nothing the invariant speaks of. -/
theorem State.Inv.aside (h : s.Inv) (l : List Event) (d : Word) (n : Nat) : (s.aside l d n).Inv :=
  have kept : (s.aside l d n).Sound := ⟨h.params, h.sound.memory, h.sound.regs, h.sound.caches, h.key⟩
  kept.inv h.status (fun hp => have now := h.busy hp; ⟨now.notDone, now.notNull, now.notZero, now.context⟩) h.idle

theorem Clip.keyWf_ctx (c : Clip) (s : State) : (c.ctx s.formKey).keyWf = true := by
  have shown : (c.ctx s.formKey).shownKey = s.formKey := Ctx.shownKey_of_ctxKeyWord _ _ rfl
  rw [Ctx.keyWf, shown, s.formKey_reserved, beq_self_eq_true, Bool.and_true]
  exact Bool.or_eq_true _ _ ▸ .inr (beq_self_eq_true _)

/-- The front end ends a command, or leaves it pending (45_dispatch.md R240). -/
theorem State.Sound.frontEnd (h : s.Sound) (hst : s.status.wf = true) (hd : s.status.done = false)
    (hp : s.phase = .busy) : s.frontEnd.Inv := by
  rcases s.frontEnd_cases with ⟨-, e⟩ | ⟨-, -, e⟩ | ⟨c, notNull, notZero, hc, e⟩ <;> rw [e]
  · exact (h.withCtx rfl).raiseStatus rfl
  · exact (h.withCtx rfl).finishOk (by decide) fun _ => rfl
  · exact (h.withCtx (c.keyWf_ctx s)).inv hst (fun _ => ⟨hd, notNull, notZero, c, hc, rfl⟩)
      fun idle => nomatch idle.symm.trans hp

theorem State.Inv.execStart (h : s.Inv) (ht : execStart s = .next t) : t.Inv := by
  cases hp : s.phase with
  | busy =>
    rw [execStart_busy hp] at ht
    exact Host.Outcome.next.inj ht ▸ h
  | idle =>
    rw [execStart_idle hp] at ht
    exact Host.Outcome.next.inj ht ▸ h.sound.started.frontEnd h.status rfl rfl

/-- The key that a BUSY block shows is that of its operands. -/
theorem State.Pending.shownKey (h : s.Pending) : s.ctx.shownKey = s.formKey := by
  obtain ⟨c, -, e⟩ := h.context
  rw [e]
  exact Ctx.shownKey_of_ctxKeyWord _ _ rfl

/-- A pending command runs the row of its formats and counts. -/
theorem State.Pending.instr_eq (h : s.Pending) {i : Instr} (hi : decodeKey s.ctx.shownKey = .ok i) :
    i = dispatchRow s.srcFormat s.tgtFormat (s.srcGrays == s.tgtGrays) (validCount s.tgtGrays)
      (s.srcGrays == 256#9) (validCount s.srcGrays) := by
  rw [h.shownKey, s.decodeKey_formKey] at hi
  exact (Except.ok.inj hi).symm

/-- The dispatch sends to a kernel with tables only a command of valid counts, and to the rescaling one only a command
of different counts. -/
theorem State.Pending.countsValid (h : s.Pending) {i : Instr} {k : Kernel} (hi : decodeKey s.ctx.shownKey = .ok i)
    (hk : kernelOf i = some k) : k.CountsValid s := by
  rw [h.instr_eq hi] at hk
  obtain ⟨-, -, -, tables, -, conv⟩ := kernelOf_dispatchRow hk
  refine ⟨fun ht => (tables ht).2.2.1, fun ht => (tables ht).2.2.2, fun ht => ?_⟩
  exact (beq_eq_false_iff_ne.1 (conv ht)).symm

theorem kernelOf_id_le {i : Instr} {k : Kernel} (h : kernelOf i = some k) : k.id.toNat ≤ 24 := by
  rcases i.eq_start_or_dispatchRow with ⟨w, rfl⟩ | ⟨_, _, _, _, _, _, rfl, -⟩
  · cases h
  · exact (kernelOf_dispatchRow h).2.2.1

/-- The unit's turn keeps the invariant: its lookups insert valid keys, its kernel writes admitted bytes. -/
theorem State.Inv.exec_busy (h : s.Inv) (hp : s.phase = .busy) {i : Instr} (hi : decodeKey s.ctx.shownKey = .ok i)
    (ht : exec i s = .next t) : t.Inv := by
  rcases exec_next ht with ⟨k, s1, hk, hl, rfl⟩ | ⟨k, s1, hk, hl, admitted, rfl⟩ | ⟨w, -, e⟩ |
    ⟨-, rfl | rfl | rfl | rfl⟩
  · exact (h.sound.lookups ((h.busy hp).countsValid hi hk) (.inr hl)).raiseStatus rfl
  · have after := h.sound.lookups ((h.busy hp).countsValid hi hk) (.inl hl)
    exact (after.withCanvas (after.memory.composite admitted)).finishOk (kernelOf_id_le hk) nofun
  · exact h.execStart e
  · exact h.sound.raiseStatus rfl
  · exact h.sound.raiseStatus rfl
  · exact h.sound.raiseStatus rfl
  · exact h.sound.finishOk (by decide) fun _ => rfl

theorem State.Inv.withSchedule (h : s.Inv) (l : List Event) : (s.withSchedule l).Inv := h.aside l s.portData s.draws

theorem State.Inv.writeReg (h : s.Inv) (r : Reg) (v : Word) : (s.writeReg r v).Inv := by
  cases hp : s.phase with
  | busy => exact (State.writeReg_busy hp r v).symm ▸ h
  | idle =>
    have written : s.writeReg r v = { s with regs := s.regs.write s.params r v } := by simp only [State.writeReg, hp]
    have sound : (s.writeReg r v).Sound :=
      written ▸ ⟨h.params, h.sound.memory, h.sound.regs.write r v, h.sound.caches, h.key⟩
    refine sound.inv (s.writeReg_status r v ▸ h.status) (fun busy => ?_) fun _ => written ▸ h.idle hp
    exact nomatch hp.symm.trans ((s.writeReg_phase r v).symm.trans busy)

/-- What a host's memory access does to a block that meets the invariant: memory stays inside its space, and only a
command in progress is disturbed. -/
theorem State.Inv.memAccess (h : s.Inv) {m : List Host.Cell} (hm : Memory.Within s.params m) (d : Bool)
    (hd : s.phase = .idle → d = false) (v : Byte) (n : Nat) :
    State.Inv { s with mem := m, disturbed := d, memData := v, draws := n } :=
  have kept : State.Sound { s with mem := m, disturbed := d, memData := v, draws := n } :=
    ⟨h.params, hm, h.sound.regs, h.sound.caches, h.key⟩
  kept.inv h.status (fun hp => have now := h.busy hp; ⟨now.notDone, now.notNull, now.notZero, now.context⟩) hd

theorem State.pendingSource_idle (h : s.phase = .idle) : s.pendingSource = [] := by
  simp only [State.pendingSource, State.pendingKernel, h]

theorem State.Inv.hostMemWrite (h : s.Inv) {a : Nat} (ha : a < 2 ^ s.params.addrW) (v : Byte) :
    (s.hostMemWrite a v).Inv :=
  h.memAccess (h.sound.memory.write ha v) _ (fun hp => by
    simp [h.idle hp, State.pendingSource_idle hp, State.pendingTarget_idle hp]) s.memData s.draws

theorem State.Inv.hostMemRead (h : s.Inv) (a : Nat) : (s.hostMemRead a).Inv := by
  unfold State.hostMemRead
  split_ifs with pending
  · refine h.memAccess h.sound.memory true (fun hp => ?_) _ _
    simp [State.pendingTarget_idle hp] at pending
  · exact h.memAccess h.sound.memory s.disturbed h.idle _ s.draws

theorem holdsByte_lt {p : Params} {a : Int} (h : holdsByte p a = true) : a.toNat < 2 ^ p.addrW := by
  simp only [holdsByte, inMemorySpace, Bool.and_eq_true, decide_eq_true_eq] at h
  exact h.2

theorem State.Inv.resetBlock (h : s.Inv) : s.resetBlock.Inv :=
  have freed : Memory.Within s.params s.resetBlock.mem :=
    h.sound.memory.scrambleAll fun _ ha => holdsByte_lt (List.mem_filter.1 ha).2
  have fresh := State.sound_resetWith h.params
  have kept : s.resetBlock.Sound := ⟨h.params, freed, fresh.regs, fresh.caches, rfl⟩
  kept.inv rfl nofun fun _ => rfl

end

/-- Settles O51, by what a step can do: run an instruction, `START` a command, or answer a host event. -/
theorem everyStepKeepsTheInvariant : Obligations.EveryStepKeepsTheInvariant := by
  intro s t h hstep
  rcases step_cases hstep with ⟨i, l, d, n, hp, hi, e⟩ | ⟨w, l, e, -⟩ | ⟨l, d, n, rfl⟩ | ⟨l, r, v, rfl⟩ |
    ⟨l, a, v, ha, rfl⟩ | ⟨l, a, -, rfl⟩ | ⟨l, -, rfl⟩
  · exact (h.aside l d n).exec_busy hp hi e
  · exact (h.withSchedule l).execStart e
  · exact h.aside l d n
  · exact (h.withSchedule l).writeReg r v
  · exact (h.withSchedule l).hostMemWrite ha v
  · exact (h.withSchedule l).hostMemRead a
  · exact (h.withSchedule l).resetBlock

end Sys2Proof.Machine

/-! The register port and the host's memory accesses (spec 30_encoding.md R90, R91; 10_state.md R22 to R35; 20_memory.md
R72; 70_reset_and_hazards.md R302): what a register holds after a write, and what a read answers, IDLE and BUSY. -/

namespace Sys2Proof.Machine

/-! ### The register map (30_encoding.md R90) -/

theorem Reg.ofOffset_offset (r : Reg) : Reg.ofOffset r.offset = r := by cases r <;> rfl

theorem Reg.offset_aligned (r : Reg) : r.offset % 4 = 0 ∧ r.offset < 0x100 := by cases r <;> decide

/-- The offsets past `CTX_KEY` are reserved (10_state.md R34). -/
theorem Reg.ofOffset_of_le {offset : Nat} (h : 0x60 ≤ offset) : Reg.ofOffset offset = .reserved := by
  unfold Reg.ofOffset
  split
  case h_25 => rfl
  all_goals omega

/-! ### What a host write does (10_state.md R22, R24 to R34) -/

section
variable {s : State} {r : Reg}

theorem Regs.write_of_not_writable (h : r.isWritable = false) (p : Params) (g : Regs) (v : Word) :
    g.write p r v = g := by
  cases r
  case lastError | srcBase | srcPitch | srcSize | srcMode | tgtBase | tgtPitch | tgtSize | tgtMode | posX | posY |
      colorValue | colorChan => exact absurd h (by decide)
  all_goals rfl

theorem State.writeReg_idle (h : s.phase = .idle) (r : Reg) (v : Word) :
    s.writeReg r v = { s with regs := s.regs.write s.params r v } := by simp only [State.writeReg, h]

theorem State.writeReg_of_not_writable (h : r.isWritable = false) (v : Word) : s.writeReg r v = s := by
  cases hp : s.phase with
  | busy => exact State.writeReg_busy hp r v
  | idle => rw [State.writeReg_idle hp, Regs.write_of_not_writable h]

/-- A write of the block that is not to `CTRL` is the write of its register. -/
theorem State.portWrite_of_ne_ctrl (s : State) {offset : Nat} (h4 : offset % 4 = 0) (hlt : offset < 0x100)
    (h : Reg.ofOffset offset ≠ .ctrl) (v : Word) :
    s.portWrite (s.params.regBase + offset) 4 v = .done (.next (s.writeReg (Reg.ofOffset offset) v)) := by
  simp only [State.portWrite, portOffset_of_aligned s.params h4 hlt]

/-- A write to `CTRL` with bit 0 = 0 does nothing (10_state.md R22). -/
theorem State.portWrite_ctrl_of_no_start (s : State) {offset : Nat} (h4 : offset % 4 = 0) (hlt : offset < 0x100)
    (h : Reg.ofOffset offset = .ctrl) {v : Word} (hv : v.getLsbD 0 = false) :
    s.portWrite (s.params.regBase + offset) 4 v = .done (.next s) := by
  have none : decodeCtrl v = .error .noStart := if_neg (Bool.eq_false_iff.1 hv)
  simp only [State.portWrite, portOffset_of_aligned s.params h4 hlt, h, none]

/-- Settles O8: a write that is not a `START` is the write of its register, and one that is not writable keeps what it
holds. -/
theorem readOnlyWritesAreIgnored : Obligations.ReadOnlyWritesAreIgnored := by
  intro s offset v rest h4 hlt hr hctrl hs
  refine step_of_turn_done ((turn_portWrite hs).trans ?_)
  by_cases ctrl : Reg.ofOffset offset = .ctrl
  · exact (s.withSchedule rest).portWrite_ctrl_of_no_start h4 hlt ctrl (hctrl ctrl)
  · refine ((s.withSchedule rest).portWrite_of_ne_ctrl h4 hlt ctrl v).trans ?_
    rw [State.writeReg_of_not_writable hr]
    rfl

/-! ### What a register reads after a write -/

theorem Word.and_all (v : Word) : v &&& 0xFFFFFFFF = v := BitVec.and_allOnes

theorem State.readReg_write_same (h : r.isWritable = true) (l : List Event) (v : Word) :
    State.readReg { s with regs := s.regs.write s.params r v, schedule := l } r = v &&& r.writableBits s.params := by
  cases r
  case srcBase | tgtBase | srcMode | tgtMode => rfl
  case lastError | srcPitch | srcSize | tgtPitch | tgtSize | posX | posY | colorValue | colorChan =>
    exact (Word.and_all v).symm
  all_goals exact absurd h (by decide)

/-- A register that holds no host data, or another one than that written, reads as before. -/
theorem State.readReg_write_other {q : Reg} (h : q ≠ r) (l : List Event) (v : Word) :
    State.readReg { s with regs := s.regs.write s.params r v, schedule := l } q = s.readReg q := by
  cases q
  case ctrl | status | cacheInfo | reserved => rfl
  case ctxReadX | ctxReadY | ctxWriteX | ctxWriteY | ctxVisW | ctxVisH | ctxRightClip | ctxKey => rfl
  all_goals cases r <;> first | rfl | exact absurd rfl h

/-- Settles O7, by the register write that the step is. -/
theorem registerHoldsWhatIsWritten : Obligations.RegisterHoldsWhatIsWritten := by
  intro s r v rest hp hr hs
  obtain ⟨h4, hlt⟩ := r.offset_aligned
  have notCtrl : Reg.ofOffset r.offset ≠ .ctrl := by
    rw [Reg.ofOffset_offset]
    rintro rfl
    exact absurd hr (by decide)
  have written := (s.withSchedule rest).portWrite_of_ne_ctrl h4 hlt notCtrl v
  rw [Reg.ofOffset_offset, State.writeReg_idle (s := s.withSchedule rest) hp] at written
  exact ⟨_, step_of_turn_done ((turn_portWrite hs).trans written), rfl, State.readReg_write_same hr rest v,
    fun q hq => State.readReg_write_other hq rest v⟩

/-! ### Accesses the port refuses (30_encoding.md R91) -/

theorem portOffset_eq_none {p : Params} {addr bytes : Nat}
    (h : bytes ≠ 4 ∨ addr < p.regBase ∨ (addr - p.regBase) % 4 ≠ 0 ∨ 0x100 ≤ addr - p.regBase) :
    portOffset p addr bytes = none := if_neg (by omega)

/-- Settles O10, for a write and for a read. -/
theorem otherPortAccessesAreRefused : Obligations.OtherPortAccessesAreRefused := by
  intro s addr bytes v rest h hs
  have outside : portOffset (s.withSchedule rest).params addr bytes = none := portOffset_eq_none h
  rcases hs with hs | hs
  · exact step_of_turn_done ((turn_portWrite hs).trans (by simp only [State.portWrite, outside]))
  · exact step_of_turn_done ((turn_portRead hs).trans (by simp only [State.portRead, outside]))

/-! ### What a host read answers (10_state.md R35) -/

theorem State.hostRead_of_not_free (h : s.readIsFree r = false) :
    s.hostRead r = { s with portData := s.readReg r } := by
  simp [State.hostRead, State.readPort, h]

theorem State.readIsFree_idle (h : s.phase = .idle) (r : Reg) : s.readIsFree r = false := by
  simp [State.readIsFree, h]

/-- Settles O11, register by register; a read of an IDLE block is never free. -/
theorem registerReadHasNoSideEffect : Obligations.RegisterReadHasNoSideEffect := by
  refine ⟨fun s q hq => ?_, fun s offset h => ?_, fun s offset rest hp h4 hlt hs => ?_⟩
  · fin_cases hq <;> exact ⟨rfl, rfl, rfl⟩
  · rw [Reg.ofOffset_of_le h]
    rfl
  · rw [step_portRead h4 hlt hs, State.hostRead_of_not_free (s := s.withSchedule rest) (State.readIsFree_idle hp _)]
    cases Reg.ofOffset offset <;> rfl

/-! ### The host's memory accesses (20_memory.md R72) -/

section
variable {rest : List Event} {a : Nat}

theorem step_memWrite {v : Byte} (ha : a < 2 ^ s.params.addrW) (hs : s.schedule = .memWrite a v :: rest) :
    step s = .next ((s.withSchedule rest).hostMemWrite a v) :=
  step_of_turn_done (by simp only [turn, hs, inMemorySpace, decide_eq_true ha, if_true])

theorem step_memRead (ha : a < 2 ^ s.params.addrW) (hs : s.schedule = .memRead a :: rest) :
    step s = .next ((s.withSchedule rest).hostMemRead a) :=
  step_of_turn_done (by simp only [turn, hs, inMemorySpace, decide_eq_true ha, if_true])

theorem step_memWrite_idle {v : Byte} (hp : s.phase = .idle) (ha : a < 2 ^ s.params.addrW)
    (hs : s.schedule = .memWrite a v :: rest) :
    step s = .next { s with mem := Memory.write s.mem a v, schedule := rest } := by
  have idle : (s.withSchedule rest).phase = .idle := hp
  rw [step_memWrite ha hs]
  simp [State.hostMemWrite, State.pendingSource_idle idle, State.pendingTarget_idle idle]

theorem step_memRead_idle (hp : s.phase = .idle) (ha : a < 2 ^ s.params.addrW)
    (hs : s.schedule = .memRead a :: rest) :
    step s = .next { s with memData := Memory.read s.mem a, schedule := rest } := by
  have idle : (s.withSchedule rest).phase = .idle := hp
  rw [step_memRead ha hs]
  simp [State.hostMemRead, State.pendingTarget_idle idle]

end

/-- Settles O58: an IDLE block's memory is what the host makes of it. -/
theorem hostReadsBackItsMemory : Obligations.HostReadsBackItsMemory := by
  intro s a v rest hwf hp ha hs
  refine ⟨_, _, step_memWrite_idle hp ha hs, step_memRead_idle (rest := rest) hp ha rfl, ?_, rfl, fun n hn => ?_⟩
  · exact Memory.read_write_same s.mem a v hwf
  · exact Memory.read_write_other s.mem a n v hn

/-! ### Reads while BUSY (70_reset_and_hazards.md R302) -/

/-- A command in progress shows `BUSY = 1`, `DONE = 0` and the other fields of `STATUS` as stored. -/
theorem State.Inv.statusWord_busy (h : s.Inv) (hp : s.phase = .busy) :
    s.statusWord.getLsbD 0 = true ∧ s.statusWord.getLsbD 1 = false ∧ s.statusWord.getLsbD 2 = s.status.noop ∧
      s.statusWord.extractLsb' 8 8 = s.status.code ∧ s.statusWord.extractLsb' 16 4 = s.status.kind.code ∧
      s.statusWord.extractLsb' 24 5 = s.status.path := by
  obtain ⟨busy, done, noop, -, code, kind, -, path, -⟩ := s.statusWord_fields
  exact ⟨busy.2 hp, done.trans (h.busy hp).notDone, noop, code, kind, path⟩

theorem State.readPort_busy (hp : s.phase = .busy) (hr : r.midCommand = true) :
    s.readPort r = s.readBefore r ∨ s.readPort r = s.readAfter r := by
  have free : s.readIsFree r = true := by simp [State.readIsFree, hp, hr]
  simp only [State.readPort, free, if_true]
  split_ifs
  · exact .inr rfl
  · exact .inl rfl

theorem State.readPort_of_not_midCommand (hr : r.midCommand = false) : s.readPort r = s.readReg r := by
  simp [State.readPort, State.readIsFree, hr]

theorem State.readAfter_aside (s : State) (l : List Event) (d : Word) (n : Nat) (r : Reg) :
    (s.aside l d n).readAfter r = s.readAfter r := by
  cases r
  case cacheInfo => simp only [State.readAfter, State.cachesAfter_aside, State.aside_params]
  all_goals rfl

theorem State.readReg_aside (s : State) (l : List Event) (d : Word) (n : Nat) (r : Reg) :
    (s.aside l d n).readReg r = s.readReg r := by cases r <;> rfl

/-- What the registers of R302 read when `START` answers is what they read before. -/
theorem readBefore_of_start {t : State} {w : BitVec 31} (hp : s.phase = .idle) (hr : r.midCommand = true)
    (ht : exec (.start w) s = .next t) : t.readBefore r = s.readReg r := by
  have kept : t.params = s.params ∧ t.sat = s.sat ∧ t.conv = s.conv ∧ t.ctxBefore = s.ctx := by
    rw [exec_start, execStart_idle hp] at ht
    obtain rfl := Host.Outcome.next.inj ht
    rcases s.started.frontEnd_cases with ⟨-, e⟩ | ⟨-, -, e⟩ | ⟨c, -, -, -, e⟩ <;> rw [e] <;> exact ⟨rfl, rfl, rfl, rfl⟩
  obtain ⟨params, sat, conv, ctx⟩ := kept
  cases r
  case cacheInfo => simp only [State.readBefore, State.readReg, params, sat, conv]
  case ctxReadX | ctxReadY | ctxWriteX | ctxWriteY | ctxVisW | ctxVisH | ctxRightClip | ctxKey =>
    simp only [State.readBefore, State.readReg, ctx]
  all_goals exact absurd hr (by decide)

/-- The decoder of keys reads no `START`. -/
theorem decodeKey_ne_start {k : Key} {w : BitVec 31} : decodeKey k ≠ .ok (.start w) :=
  fun h => nomatch encode_of_decode (c := .key k) h

/-- The unit's turn leaves the context registers as `START` wrote them and the cache lists as R302 foresees. -/
theorem exec_keeps_ctx {t : State} {i : Instr} (hi : decodeKey s.ctx.shownKey = .ok i) (h : exec i s = .next t) :
    t.params = s.params ∧ t.ctx = s.ctx ∧ (t.sat, t.conv) = s.cachesAfter := by
  have pending : s.pendingInstr = .ok i := hi
  have looked {k : Kernel} {s1 : State} (hl : k.lookups s = .ok s1 ∨ k.lookups s = .error s1) :
      s1.params = s.params ∧ s1.ctx = s.ctx := by
    rw [Kernel.lookups_changes_caches_only k s s1 hl]
    exact ⟨rfl, rfl⟩
  rcases exec_next h with ⟨k, s1, hk, hl, rfl⟩ | ⟨k, s1, hk, hl, -, rfl⟩ | ⟨w, rfl, -⟩ | ⟨hk, e⟩
  · exact ⟨(looked (.inr hl)).1, (looked (.inr hl)).2, by simp only [State.cachesAfter, pending, hk, hl]; rfl⟩
  · exact ⟨(looked (.inl hl)).1, (looked (.inl hl)).2, by simp only [State.cachesAfter, pending, hk, hl]; rfl⟩
  · exact absurd hi decodeKey_ne_start
  · have caches : s.cachesAfter = (s.sat, s.conv) := by simp only [State.cachesAfter, pending, hk]
    rw [caches]
    rcases e with rfl | rfl | rfl | rfl <;> exact ⟨rfl, rfl, rfl⟩

/-- The registers of R302 read after the command what `readAfter` foresees. -/
theorem readAfter_of_exec {t : State} {i : Instr} (hr : r.midCommand = true) (hi : decodeKey s.ctx.shownKey = .ok i)
    (h : exec i s = .next t) : s.readAfter r = t.readReg r := by
  obtain ⟨params, ctx, caches⟩ := exec_keeps_ctx hi h
  cases r
  case cacheInfo => simp only [State.readAfter, State.readReg, params, ← caches]
  case ctxReadX | ctxReadY | ctxWriteX | ctxWriteY | ctxVisW | ctxVisH | ctxRightClip | ctxKey =>
    simp only [State.readAfter, State.readReg, ctx]
  all_goals exact absurd hr (by decide)

theorem readAfter_of_step {u : State} (hp : s.phase = .busy) (hr : r.midCommand = true)
    (h : step (s.withSchedule []) = .next u) : s.readAfter r = u.readReg r := by
  have now : turn (s.withSchedule []) = (s.withSchedule []).unitTurn := turn_nil rfl
  rcases (s.withSchedule []).unitTurn_cases with ⟨idle, -⟩ | ⟨-, i, hi, e⟩ | ⟨-, -, e⟩
  · exact nomatch idle.symm.trans hp
  · rw [step_of_turn_run (now.trans e)] at h
    have after := readAfter_of_exec hr hi h
    rwa [State.withSchedule_eq_aside, State.readAfter_aside] at after
  · rw [step_of_turn_done (now.trans e)] at h
    cases h

/-- Settles O12: the value after by what the unit's turn leaves, the value before by what `START` keeps, and the read
by its three kinds of registers. -/
theorem readsWhileBusy : Obligations.ReadsWhileBusy := by
  refine ⟨fun s u r hp hr h => readAfter_of_step hp hr h, fun s t r w hp hr h => readBefore_of_start hp hr h,
    fun s r rest inv hp hs => ?_⟩
  obtain ⟨h4, hlt⟩ := r.offset_aligned
  have answer := step_portRead h4 hlt hs
  rw [Reg.ofOffset_offset] at answer
  have busy : (s.withSchedule rest).phase = .busy := hp
  refine ⟨_, answer, rfl, ?_, fun hr => ?_, fun hr => ?_⟩
  · rintro rfl
    rw [State.hostRead_status]
    exact inv.statusWord_busy hp
  · have after : (s.withSchedule rest).readAfter r = s.readAfter r := s.readAfter_aside rest s.portData s.draws r
    exact after ▸ State.readPort_busy busy hr
  · exact (State.readPort_of_not_midCommand hr).trans (s.readReg_aside rest s.portData s.draws r)

end

end Sys2Proof.Machine

/-! Clipping and blending bounds (spec 40_clip.md R128; 42_gray.md R171, R178), and `START` (45_dispatch.md R240 to
R247): the clip lies inside source and target, so the context registers show it without loss. -/

namespace Sys2Proof.Machine

/-! ### What is drawn lies inside source and target (R128) -/

/-- The byte-rounded width is at least the width and less than a byte of pixels above it. -/
theorem roundedWidth_bounds (f : Format) (n : Nat) : n ≤ roundedWidth f n ∧ roundedWidth f n < n + 8 := by
  fun_cases roundedWidth f n
  case case1 => exact (ceilTo_bounds (by decide) n).2
  case case2 =>
    obtain ⟨-, low, high⟩ := ceilTo_bounds (k := 2) (by decide) n
    exact ⟨low, by omega⟩
  case case3 => exact ⟨le_rfl, by omega⟩

theorem addressableWidth_lt (f : Format) (n : Nat) : addressableWidth f n < n + 8 := by
  fun_cases addressableWidth f n
  case case1 => exact (ceilTo_bounds (by decide) n).2.2
  case case2 => exact (ceilTo_bounds (k := 2) (by decide) n).2.2.trans_le (by omega)
  all_goals omega

theorem addressableHeight_le (f : Format) (n : Nat) : addressableHeight f n ≤ n := by
  fun_cases addressableHeight f n
  · exact Nat.div_le_self n 3
  · exact Nat.div_le_self n 3
  · exact le_rfl

/-- Settles O18: the closed form of a clip that draws something, against the extents. -/
theorem clipLiesInsideSourceAndTarget : Obligations.ClipLiesInsideSourceAndTarget := by
  intro sf tf sw sh tw th x y c hc
  have draws : ¬ DrawsNothing (addressableWidth sf sw) (addressableHeight sf sh) tw th x y := fun nothing => by
    simp [clip_of_drawsNothing nothing] at hc
  obtain rfl := clip_eq_some hc
  have rounded := (roundedWidth_bounds tf tw).1
  unfold DrawsNothing at draws
  simp only [Clip.ofRect]
  omega

/-! ### The context registers show the clip without loss (40_clip.md R129) -/

theorem Word.toNat_ofInt {v : Int} (h0 : 0 ≤ v) (h : v < 2 ^ 32) : ((BitVec.ofInt 32 v).toNat : Int) = v := by
  rw [BitVec.toNat_ofInt, Int.emod_eq_of_lt h0 (by simpa using h), Int.toNat_of_nonneg h0]

/-- Every number of a clip of 16-bit sizes and 32-bit offsets fits a register. -/
structure Clip.Fits (c : Clip) : Prop where
  readX : 0 ≤ c.readX ∧ c.readX < 2 ^ 32
  readY : 0 ≤ c.readY ∧ c.readY < 2 ^ 32
  writeX : 0 ≤ c.writeX ∧ c.writeX < 2 ^ 32
  writeY : 0 ≤ c.writeY ∧ c.writeY < 2 ^ 32
  visW : 0 ≤ c.visW ∧ c.visW < 2 ^ 32
  visH : 0 ≤ c.visH ∧ c.visH < 2 ^ 32
  rightClip : 0 ≤ c.rightClip ∧ c.rightClip < 2 ^ 32

section
variable (s : State)

theorem State.posX_bounds : -2147483648 ≤ s.posX ∧ s.posX < 2147483648 :=
  ⟨s.regs.posX.le_toInt, s.regs.posX.toInt_lt⟩

theorem State.posY_bounds : -2147483648 ≤ s.posY ∧ s.posY < 2147483648 :=
  ⟨s.regs.posY.le_toInt, s.regs.posY.toInt_lt⟩

theorem State.srcWidth_lt : s.srcWidth < 65536 := (s.regs.srcSize.extractLsb' 0 16).isLt

theorem State.srcHeight_lt : s.srcHeight < 65536 := (s.regs.srcSize.extractLsb' 16 16).isLt

theorem State.tgtWidth_lt : s.tgtWidth < 65536 := (s.regs.tgtSize.extractLsb' 0 16).isLt

theorem State.tgtHeight_lt : s.tgtHeight < 65536 := (s.regs.tgtSize.extractLsb' 16 16).isLt

end

theorem State.clip_fits {s : State} {c : Clip} (hc : s.clip = some c) : c.Fits := by
  obtain ⟨visW, visH, -⟩ := clipLiesInsideSourceAndTarget _ _ _ _ _ _ _ _ c hc
  have x := s.posX_bounds
  have y := s.posY_bounds
  have aw := (addressableWidth_lt s.srcFormat s.srcWidth).trans_le (Nat.add_le_add_right s.srcWidth_lt.le 8)
  have ah := (addressableHeight_le s.srcFormat s.srcHeight).trans_lt s.srcHeight_lt
  have rtw := (roundedWidth_bounds s.tgtFormat s.tgtWidth).2.trans_le (Nat.add_le_add_right s.tgtWidth_lt.le 8)
  have th := s.tgtHeight_lt
  obtain rfl := clip_eq_some hc
  simp only [Clip.ofRect] at visW visH
  constructor <;> simp only [Clip.ofRect] <;> omega

/-! ### `START` of a command that draws nothing, and of one that draws something (R246, R247) -/

/-- Settles O16: the clip is examined before the formats. -/
theorem clippedCommandIsANoop : Obligations.ClippedCommandIsANoop := by
  intro s w hp hsrc htgt hw hh hc
  exact ⟨_, exec_start_of_nothingToDraw hp hsrc htgt (.inr hc) w, State.statusWord_noop _,
    State.finishOk_started hp ..⟩

theorem exec_start_of_clip {s : State} {c : Clip} (hp : s.phase = .idle) (hsrc : s.srcBase ≠ 0) (htgt : s.tgtBase ≠ 0)
    (hw : s.srcWidth ≠ 0) (hh : s.srcHeight ≠ 0) (hc : s.clip = some c) (w : BitVec 31) :
    exec (.start w) s = .next (s.started.withCtx (c.ctx s.formKey)) := by
  rw [exec_start, execStart_idle hp]
  rcases s.started.frontEnd_cases with ⟨null, -⟩ | ⟨-, nothing, -⟩ | ⟨d, -, -, hd, e⟩
  · exact ((s.started.nullBitmap_eq_true.1 null).elim hsrc htgt).elim
  · rcases nothing with empty | outside
    · exact ((s.started.zeroSize_eq_true.1 empty).elim hw hh).elim
    · exact nomatch hc.symm.trans outside
  · obtain rfl := Option.some.inj (hc.symm.trans hd)
    rw [e]
    rfl

/-- Settles O17: the clip fits its registers, and the key its own. -/
theorem startFormsTheDispatchKey : Obligations.StartFormsTheDispatchKey := by
  intro s w c hp hsrc htgt hw hh hc
  have fits := State.clip_fits hc
  exact ⟨_, exec_start_of_clip hp hsrc htgt hw hh hc w, rfl, ctxKeyWord_toNat _,
    Word.toNat_ofInt fits.readX.1 fits.readX.2, Word.toNat_ofInt fits.readY.1 fits.readY.2,
    Word.toNat_ofInt fits.writeX.1 fits.writeX.2, Word.toNat_ofInt fits.writeY.1 fits.writeY.2,
    Word.toNat_ofInt fits.visW.1 fits.visW.2, Word.toNat_ofInt fits.visH.1 fits.visH.2,
    Word.toNat_ofInt fits.rightClip.1 fits.rightClip.2⟩

/-- Settles O56: the registers of the reset state, and a `START` on its null descriptors. -/
theorem resetLeavesTheResetValues : Obligations.ResetLeavesTheResetValues := by
  intro p hp
  have null : (State.resetWith p).srcBase = 0 := Nat.zero_mod _
  exact ⟨rfl, rfl, rfl, fun r hr => State.readReg_resetWith p hr, State.toNat_readReg_cacheInfo_resetWith hp,
    fun w => ⟨_, exec_start_of_null rfl (.inl null) w, State.statusWord_argument _, rfl⟩⟩

/-! ### The general blend law (42_gray.md R171) -/

/-- Division truncated toward zero, by its bounds. -/
theorem Int.tdiv_bounds (p : Int) {m : Int} (hm : 0 < m) :
    (0 ≤ p → p.tdiv m * m ≤ p ∧ p < (p.tdiv m + 1) * m) ∧ (p < 0 → (p.tdiv m - 1) * m < p ∧ p ≤ p.tdiv m * m) := by
  have parts := Int.tdiv_mul_add_tmod p m
  rw [Int.add_mul, Int.sub_mul, Int.one_mul]
  refine ⟨fun h => ?_, fun h => ?_⟩
  · have low := Int.tmod_nonneg m h
    have high := Int.tmod_lt_of_pos p hm
    omega
  · have low := Int.lt_tmod_of_pos p hm
    have high : 0 ≤ (-p).tmod m := Int.tmod_nonneg m (by omega)
    rw [Int.neg_tmod] at high
    omega

section
variable {t f m : Nat}

theorem blend_one_one (t f : Nat) : blend t f 1 1 = f := by simp [blend]

theorem blend_zero (t f : Nat) (hm : 1 ≤ m) : blend t f 0 m = t := by
  have half : ((m / 2 : Nat) : Int).tdiv m = 0 := Int.tdiv_eq_zero_of_lt (by omega) (by omega)
  simp only [blend, Nat.cast_zero, zero_mul, zero_add, half, add_zero]

/-- At full coverage the division is exact but for the half that is added, which shows only downwards. -/
theorem blend_full_of_le (hm : 1 ≤ m) (h : t ≤ f) : blend t f m m = f := by
  have half : ((m / 2 : Nat) : Int) / m = 0 := Int.ediv_eq_zero_of_lt (by omega) (by omega)
  have up : 0 ≤ (m : Int) * (f - t) := mul_nonneg (by omega) (by omega)
  rw [blend, Int.tdiv_eq_ediv_of_nonneg (by omega), Int.mul_add_ediv_left _ _ (by omega), half]
  omega

theorem blend_full_of_lt (hm : 2 ≤ m) (h : f < t) : blend t f m m = f + 1 := by
  have pos : (0 : Int) < m := by omega
  have half : 0 < ((m / 2 : Nat) : Int) ∧ ((m / 2 : Nat) : Int) < m := by omega
  rw [blend]
  generalize ((m / 2 : Nat) : Int) = r at half
  have down : (m : Int) * (f - t) ≤ m * (-1) := mul_le_mul_of_nonneg_left (by omega) pos.le
  obtain ⟨below, above⟩ := (Int.tdiv_bounds ((m : Int) * (f - t) + r) pos).2 (by omega)
  generalize ((m : Int) * (f - t) + r).tdiv m = q at below above
  have atMost : q - 1 < (f : Int) - t + 1 := lt_of_mul_lt_mul_right (by linarith) pos.le
  have atLeast : (f : Int) - t < q := lt_of_mul_lt_mul_right (by linarith) pos.le
  omega

end

/-- Settles O20: the bounds of the truncated division, and the blend at its ends. -/
theorem generalBlendLaw : Obligations.GeneralBlendLaw := by
  refine ⟨fun t f c m hm => ?_, blend_one_one, fun t f c m hm hc => ?_, fun t f m hm => ⟨?_, blend_full_of_lt hm⟩⟩
  · simpa only [blend, add_sub_cancel_left] using Int.tdiv_bounds _ (show (0 : Int) < m by omega)
  · have between : min (t : Int) f ≤ blend t f c m ∧ blend t f c m ≤ max (t : Int) f := by
      rcases hc.lt_or_eq with short | rfl
      · exact blend_mem_Icc short
      · exact blend_full_mem_Icc hm
    exact ⟨between.1, between.2, blend_zero t f hm⟩
  · exact blend_full_of_le (by omega)

/-! ### The fast blend law (42_gray.md R178) -/

/-- Settles O21: the arithmetic shift is the floor of the quotient. -/
theorem fastBlendStaysBetweenTargetAndFill : Obligations.FastBlendStaysBetweenTargetAndFill := by
  refine ⟨fun t f v => ?_, fun t f v hv => fblend_mem_Icc hv.le⟩
  rw [fblend, Int.shiftRight_eq_div_pow, add_sub_cancel_left]
  omega

end Sys2Proof.Machine

/-! The commands (spec 45_dispatch.md R240, R260; 60_exceptions.md R271, R272; 70_reset_and_hazards.md R300): every
command ends, changes only what is its own, and its two steps are the one transition of the spec. -/

namespace Sys2Proof

theorem Format.isSource_iff (sf : Format) : sf.isSource = true ↔ sf = .mono ∨ sf = .gray ∨ sf.isLcd = true := by
  cases sf <;> decide

end Sys2Proof

namespace Sys2Proof.Machine

/-! ### Every command ends (R300) -/

/-- The command is over: the block is IDLE and shows `DONE`. -/
def State.Ended (s : State) : Prop := s.phase = .idle ∧ s.status.done = true

section
variable {s t : State} {i : Instr} {k : Kernel}

theorem runKernel_ends (k : Kernel) (s : State) :
    (∃ t, runKernel k s = .next t ∧ t.Ended) ∨ ∃ a, runKernel k s = .fault (.busFault a) := by
  cases hl : k.lookups s with
  | error s1 => exact .inl ⟨s1.raiseStatus (-3) .tableCache, by simp only [runKernel, hl], rfl, rfl⟩
  | ok s1 =>
    cases hu : lowestUnadmitted s1.params (k.accessSet s1) with
    | some a => exact .inr ⟨a, by simp only [runKernel, hl, hu]⟩
    | none =>
      exact .inl ⟨(s1.withCanvas (k.composite s1)).finishOk false k.id, by simp only [runKernel, hl, hu], rfl, rfl⟩

/-- The row of a key is never `START`, so it ends the command. -/
theorem exec_ends {key : Key} (hi : decodeKey key = .ok i) (s : State) :
    (∃ t, exec i s = .next t ∧ t.Ended) ∨ ∃ a, exec i s = .fault (.busFault a) := by
  rcases exec_cases i s with ⟨k, -, e⟩ | ⟨w, rfl, -⟩ | ⟨-, e | e | e | e⟩
  · exact e ▸ runKernel_ends k s
  · exact absurd hi decodeKey_ne_start
  all_goals exact .inl ⟨_, e, rfl, rfl⟩

theorem State.Pending.decodes (h : s.Pending) : ∃ i, decodeKey s.ctx.shownKey = .ok i :=
  h.shownKey ▸ ⟨_, s.decodeKey_formKey⟩

/-- Settles O52: the key of a pending command decodes, and its row ends the command. -/
theorem everyCommandEnds : Obligations.EveryCommandEnds := by
  intro s h hp hs
  obtain ⟨i, hi⟩ := (h.busy hp).decodes
  rw [step_of_unitTurn_busy hp hi (turn_nil hs)]
  exact exec_ends hi s

/-! ### What a command changes (R260) -/

/-- From `s` to `t` an instruction kept what no instruction changes; `LAST_ERROR` changes only with an error. -/
structure State.KeepsHostState (s t : State) : Prop where
  params : t.params = s.params
  schedule : t.schedule = s.schedule
  portData : t.portData = s.portData
  memData : t.memData = s.memData
  regs : t.regs = { s.regs with lastError := t.regs.lastError }
  lastError : t.status.code = 0 → t.regs.lastError = s.regs.lastError

theorem State.keepsHostState_refl (s : State) : s.KeepsHostState s := ⟨rfl, rfl, rfl, rfl, rfl, fun _ => rfl⟩

theorem State.keepsHostState_finishOk (s : State) (noop : Bool) (path : BitVec 5) :
    s.KeepsHostState (s.finishOk noop path) := ⟨rfl, rfl, rfl, rfl, rfl, fun _ => rfl⟩

theorem State.keepsHostState_raiseStatus (s : State) {code : Int} (kind : ErrorKind) (h : BitVec.ofInt 8 code ≠ 0) :
    s.KeepsHostState (s.raiseStatus code kind) := ⟨rfl, rfl, rfl, rfl, rfl, fun zero => absurd zero h⟩

/-- A change of the caches, the context, memory or the command state before an outcome does not show in the frame. -/
theorem State.KeepsHostState.of_eq {u : State} (h : u.KeepsHostState t) (params : u.params = s.params)
    (schedule : u.schedule = s.schedule) (portData : u.portData = s.portData) (memData : u.memData = s.memData)
    (regs : u.regs = s.regs) : s.KeepsHostState t where
  params := h.params.trans params
  schedule := h.schedule.trans schedule
  portData := h.portData.trans portData
  memData := h.memData.trans memData
  regs := regs ▸ h.regs
  lastError := regs ▸ h.lastError

theorem State.KeepsHostState.of_lookups {u : State} (h : u.KeepsHostState t)
    (hl : k.lookups s = .ok u ∨ k.lookups s = .error u) : s.KeepsHostState t := by
  have caches := Kernel.lookups_changes_caches_only k s u hl
  exact h.of_eq (by rw [caches]) (by rw [caches]) (by rw [caches]) (by rw [caches]) (by rw [caches])

theorem State.keepsHostState_frontEnd (s : State) : s.KeepsHostState s.frontEnd := by
  rcases s.frontEnd_cases with ⟨-, e⟩ | ⟨-, -, e⟩ | ⟨c, -, -, -, e⟩ <;> rw [e]
  · exact ((s.withCtx .zero).keepsHostState_raiseStatus .argument (by decide)).of_eq rfl rfl rfl rfl rfl
  · exact ((s.withCtx .zero).keepsHostState_finishOk true 0).of_eq rfl rfl rfl rfl rfl
  · exact (s.withCtx _).keepsHostState_refl.of_eq rfl rfl rfl rfl rfl

theorem execStart_keepsHostState (h : execStart s = .next t) : s.KeepsHostState t := by
  cases hp : s.phase with
  | busy =>
    rw [execStart_busy hp] at h
    exact Host.Outcome.next.inj h ▸ s.keepsHostState_refl
  | idle =>
    rw [execStart_idle hp] at h
    exact Host.Outcome.next.inj h ▸ s.started.keepsHostState_frontEnd.of_eq rfl rfl rfl rfl rfl

theorem exec_keepsHostState (h : exec i s = .next t) : s.KeepsHostState t := by
  rcases exec_next h with ⟨k, s1, -, hl, rfl⟩ | ⟨k, s1, -, hl, -, rfl⟩ | ⟨w, -, e⟩ | ⟨-, rfl | rfl | rfl | rfl⟩
  · exact (s1.keepsHostState_raiseStatus .tableCache (by decide)).of_lookups (.inr hl)
  · have painted := (s1.withCanvas (k.composite s1)).keepsHostState_finishOk false k.id
    exact (painted.of_eq rfl rfl rfl rfl rfl : s1.KeepsHostState _).of_lookups (.inl hl)
  · exact execStart_keepsHostState e
  · exact s.keepsHostState_raiseStatus .sourceDepth (by decide)
  · exact s.keepsHostState_raiseStatus .targetDepth (by decide)
  · exact s.keepsHostState_raiseStatus .argument (by decide)
  · exact s.keepsHostState_finishOk true 0

/-- Lookups move neither span. -/
theorem Kernel.tgtSpan_of_lookups (hl : k.lookups s = .ok t) (f : Format) : t.tgtSpan f = s.tgtSpan f := by
  rw [Kernel.lookups_changes_caches_only k s t (.inl hl)]
  rfl

theorem State.WroteNoMemory.mem_eq {sat : List Count} (h : s.WroteNoMemory t sat) : t.mem = s.mem := by
  unfold State.WroteNoMemory at h
  rw [h]

/-- Only a kernel that runs its pixel loop writes memory, and only in its target span. -/
theorem exec_read_mem (h : exec i s = .next t) (n : Nat) : Memory.read t.mem n = Memory.read s.mem n ∨
    ∃ k, kernelOf i = some k ∧ (n : Int) ∈ s.tgtSpan k.tf := by
  rcases exec_next h with ⟨k, s1, -, hl, rfl⟩ | ⟨k, s1, hk, hl, admitted, rfl⟩ | ⟨w, -, e⟩ | ⟨-, rfl | rfl | rfl | rfl⟩
  · rw [Kernel.lookups_changes_caches_only k s s1 (.inr hl)]
    exact .inl rfl
  · by_cases hn : (n : Int) ∈ s.tgtSpan k.tf
    · exact .inr ⟨k, hk, hn⟩
    · have nonneg : ∀ a ∈ s1.tgtSpan k.tf, 0 ≤ a := fun a ha =>
        admits_nonneg (admitted a (List.mem_append_right _ ha))
      have kept := Kernel.read_composite_other k s1 n nonneg (by rwa [Kernel.tgtSpan_of_lookups hl])
      have before : s1.mem = s.mem := by rw [Kernel.lookups_changes_caches_only k s s1 (.inl hl)]
      exact .inl (kept.trans (before ▸ rfl))
  · exact .inl (congrArg (Memory.read · n) (execStart_wroteNoMemory e).mem_eq)
  all_goals exact .inl rfl

/-- Settles O54: the frame, the caches (R226) and memory. -/
theorem commandsChangeOnlyTheirOwnState : Obligations.CommandsChangeOnlyTheirOwnState := by
  intro i s t h
  obtain ⟨params, schedule, portData, memData, regs, lastError⟩ := exec_keepsHostState h
  obtain ⟨sat, conv⟩ := exec_cachesGrow h
  exact ⟨params, schedule, portData, memData, regs, lastError, sat, conv, exec_read_mem h⟩

end

/-! ### The two steps of a command (R240, R242, R248) -/

theorem kernelOf_mono_of_target {tf : Format} (h : tf.isMonoTarget = true) (geq tg2 s256 sg2 : Bool) :
    ∃ k, kernelOf (dispatchRow .mono tf geq tg2 s256 sg2) = some k := by
  cases tf
  case mono | pal4 | pal8 | gray | rgb555 | rgb565 | rgb24 | rgb32 => exact ⟨_, rfl⟩
  all_goals exact absurd h (by decide)

theorem kernelOf_gray_of_gray (geq s256 : Bool) :
    ∃ k, kernelOf (dispatchRow .gray .gray geq true s256 true) = some k := by
  cases geq <;> exact ⟨_, rfl⟩

theorem kernelOf_lcd_of_rgb24 {sf : Format} (h : sf.isLcd = true) (geq tg2 s256 : Bool) :
    ∃ k, kernelOf (dispatchRow sf .rgb24 geq tg2 s256 true) = some k := by
  rcases (Format.isLcd_iff sf).1 h with rfl | rfl | rfl | rfl <;> cases s256 <;> exact ⟨_, rfl⟩

/-- The outcome of a row that runs no kernel (R254 to R257), from the formats and the validity of the source count. -/
def State.rowOutcome (s : State) (sf tf : Format) (sg2 : Bool) : State :=
  if sf.isSource = false then s.raiseStatus (-2) .sourceDepth
  else if sf.isLcd = true ∧ tf ≠ .rgb24 then s.finishOk true 0
  else if sf ≠ .mono ∧ sg2 = false then s.raiseStatus (-1) .argument
  else s.raiseStatus (-1) .targetDepth

theorem exec_dispatchRow_of_no_kernel {sf tf : Format} {geq tg2 s256 sg2 : Bool} (s : State)
    (h : kernelOf (dispatchRow sf tf geq tg2 s256 sg2) = none) :
    exec (dispatchRow sf tf geq tg2 s256 sg2) s = .next (s.rowOutcome sf tf sg2) := by
  have noKernel : ¬ ∃ k, kernelOf (dispatchRow sf tf geq tg2 s256 sg2) = some k :=
    fun ⟨k, hk⟩ => nomatch h.symm.trans hk
  unfold State.rowOutcome
  by_cases source : sf.isSource = true
  case neg =>
    rw [if_pos (Bool.eq_false_iff.2 source)]
    exact exec_dispatchRow_of_not_source geq s256 s (Bool.eq_false_iff.2 source) tf tg2 sg2
  rw [if_neg (by simp [source])]
  rcases sf.isSource_iff.1 source with rfl | rfl | lcd
  · rw [if_neg (by simp [Format.isLcd]), if_neg (by simp)]
    refine exec_dispatchRow_mono_of_not_target geq s256 s (Bool.eq_false_iff.2 fun target => ?_) tg2 sg2
    exact noKernel (kernelOf_mono_of_target target ..)
  · rw [if_neg (by simp [Format.isLcd])]
    cases sg2
    case false => exact exec_dispatchRow_gray_of_invalidCount geq s256 s tf tg2
    refine exec_dispatchRow_gray_of_not_target geq s256 s (Bool.eq_false_iff.2 fun colour => ?_) ?_
    · obtain ⟨k, hk, -⟩ := kernelOf_grayBranch_of_colour colour geq tg2 s256
      exact noKernel ⟨k, hk⟩
    · rintro rfl
      cases tg2
      case false => rfl
      exact absurd (kernelOf_gray_of_gray geq s256) noKernel
  · by_cases target : tf = .rgb24
    · subst target
      cases sg2
      case true => exact absurd (kernelOf_lcd_of_rgb24 lcd geq tg2 s256) noKernel
      have notMono : sf ≠ .mono := by
        rintro rfl
        exact absurd lcd (by decide)
      rw [if_neg (by simp), if_pos ⟨notMono, rfl⟩]
      exact exec_dispatchRow_lcd_of_invalidCount geq s256 s lcd tg2
    · rw [if_pos ⟨lcd, target⟩]
      exact exec_dispatchRow_lcd_of_not_rgb24 geq s256 s lcd target tg2 sg2

theorem State.nullBitmap_eq_false (s : State) : s.nullBitmap = false ↔ ¬(s.srcBase = 0 ∨ s.tgtBase = 0) := by
  rw [← State.nullBitmap_eq_true, Bool.not_eq_true]

theorem State.zeroSize_eq_false (s : State) : s.zeroSize = false ↔ ¬(s.srcWidth = 0 ∨ s.srcHeight = 0) := by
  rw [← State.zeroSize_eq_true, Bool.not_eq_true]

/-- The unit's turn of a block that has formed the key of its operands runs the row of that key. -/
theorem step_of_formKey {s : State} (hp : s.phase = .busy) (hs : s.schedule = []) {c : Clip}
    (hc : s.ctx = c.ctx s.formKey) : ∃ i, decodeKey s.formKey = .ok i ∧
      match kernelOf i with
      | some k => step s = runKernel k s
      | none => step s = .next (s.rowOutcome s.srcFormat s.tgtFormat (validCount s.srcGrays)) := by
  have key : s.ctx.shownKey = s.formKey := hc ▸ Ctx.shownKey_of_ctxKeyWord _ _ rfl
  have row := step_of_unitTurn_busy hp (key ▸ s.decodeKey_formKey) (turn_nil hs)
  refine ⟨_, s.decodeKey_formKey, ?_⟩
  split
  · next k hk => exact row.trans (exec_of_kernelOf hk s)
  · next hk => exact row.trans (exec_dispatchRow_of_no_kernel s hk)

/-- Settles O49: the first step is the front end, the second the row of the key that it formed. -/
theorem startThenUnitTurnIsTheBlitCommand : Obligations.StartThenUnitTurnIsTheBlitCommand := by
  intro s w hp hw hs b
  have first : step s = .next b.frontEnd := (step_start hw hs).trans (execStart_idle (s := s.withSchedule []) hp)
  rw [first]
  rcases b.frontEnd_cases with ⟨null, e⟩ | ⟨notNull, nothing, e⟩ | ⟨c, notNull, sized, clipped, e⟩ <;> rw [e]
  · have null : s.srcBase = 0 ∨ s.tgtBase = 0 := b.nullBitmap_eq_true.1 null
    rw [if_pos null]
    rfl
  · have notNull : ¬(s.srcBase = 0 ∨ s.tgtBase = 0) := b.nullBitmap_eq_false.1 notNull
    rw [if_neg notNull]
    by_cases empty : s.srcWidth = 0 ∨ s.srcHeight = 0
    · rw [if_pos empty]
      rfl
    · have outside : s.clip = none := nothing.resolve_left fun zero => empty (b.zeroSize_eq_true.1 zero)
      rw [if_neg empty, outside]
      rfl
  · have notNull : ¬(s.srcBase = 0 ∨ s.tgtBase = 0) := b.nullBitmap_eq_false.1 notNull
    have sized : ¬(s.srcWidth = 0 ∨ s.srcHeight = 0) := b.zeroSize_eq_false.1 sized
    have clipped : s.clip = some c := clipped
    rw [if_neg notNull, if_neg sized, clipped]
    obtain ⟨i, hi, row⟩ := step_of_formKey (s := b.withCtx (c.ctx s.formKey)) rfl rfl rfl
    exact ⟨i, hi, rfl, row⟩

end Sys2Proof.Machine

/-! The kernel rows (spec 45_dispatch.md R259; 44_lut_cache.md R223, R227; 20_memory.md R75, R76): when their lookups
succeed and with what, that they complete and keep all but their target span, and that a disturbed command completes
too. -/

namespace Sys2Proof.Machine

/-! ### When the lookups succeed (44_lut_cache.md R223) -/

/-- The conversion key is cached, or there is room for it. -/
def State.ConvAvailable (s : State) : Prop :=
  (s.tgtGrays, s.srcGrays) ∈ s.conv ∨ s.conv.length < s.params.convCap

/-- The conversion list once the command's key is in it. -/
def State.convWithKey (s : State) : List (Count × Count) :=
  if (s.tgtGrays, s.srcGrays) ∈ s.conv then s.conv else s.conv ++ [(s.tgtGrays, s.srcGrays)]

/-- A state with its cache lists replaced: all that lookups change. -/
def State.withCaches (s : State) (sat : List Count) (conv : List (Count × Count)) : State :=
  { s with sat := sat, conv := conv }

section
variable {k : Kernel} {s s1 : State}

theorem State.ConvAvailable.lookupConv (h : s.ConvAvailable) :
    s.lookupConv s.tgtGrays s.srcGrays = some { s with conv := s.convWithKey } := by
  by_cases hmem : (s.tgtGrays, s.srcGrays) ∈ s.conv
  · simp only [State.lookupConv, State.convWithKey, if_pos hmem]
  · simp only [State.lookupConv, State.convWithKey, if_neg hmem, if_pos (h.resolve_left hmem)]

theorem Kernel.lookups_of_sat (hk : k.tables = .sat) (h : s.SatAvailable) :
    k.lookups s = .ok (s.withCaches s.satWithKey s.conv) := by
  simp only [Kernel.lookups, hk, h.lookupSat]
  rfl

/-- The conversion lookup finds the list as the saturation lookup found it. -/
theorem Kernel.lookups_of_satConv (hk : k.tables = .satConv) (h : s.SatAvailable) (hc : s.ConvAvailable) :
    k.lookups s = .ok (s.withCaches s.satWithKey s.convWithKey) := by
  have second := State.ConvAvailable.lookupConv (s := { s with sat := s.satWithKey }) hc
  simp only [Kernel.lookups, hk, h.lookupSat]
  exact second ▸ rfl

theorem State.not_satAvailable : ¬ s.SatAvailable ↔ s.lookupSat s.tgtGrays = none := by
  rw [State.lookupSat_eq_none, State.SatAvailable, not_or, not_lt]

theorem State.not_convAvailable : ¬ s.ConvAvailable ↔ s.lookupConv s.tgtGrays s.srcGrays = none := by
  rw [State.lookupConv_eq_none, State.ConvAvailable, not_or, not_lt]

theorem Kernel.satAvailable_of_lookups (hk : k.tables ≠ .none) (hl : k.lookups s = .ok s1) : s.SatAvailable := by
  by_contra full
  exact nomatch hl.symm.trans (Kernel.lookups_error_of_sat hk (State.not_satAvailable.1 full))

theorem Kernel.convAvailable_of_lookups (hk : k.tables = .satConv) (hl : k.lookups s = .ok s1) : s.ConvAvailable := by
  by_contra full
  have sat : s.SatAvailable := Kernel.satAvailable_of_lookups (by simp [hk]) hl
  have failed : ({ s with sat := s.satWithKey } : State).lookupConv s.tgtGrays s.srcGrays = none :=
    State.not_convAvailable.1 full
  exact nomatch hl.symm.trans (Kernel.lookups_error_of_conv hk sat.lookupSat failed)

/-- States that agree on what the lookups read agree on whether they succeed. -/
theorem Kernel.lookups_ok_congr {t : State} (hl : k.lookups s = .ok s1) (params : t.params = s.params)
    (regs : t.regs = s.regs) (sat : t.sat = s.sat) (conv : t.conv = s.conv) : ∃ t1, k.lookups t = .ok t1 := by
  have satAvailable : k.tables ≠ .none → t.SatAvailable := fun hk => by
    simpa only [State.SatAvailable, State.tgtGrays, params, regs, sat] using Kernel.satAvailable_of_lookups hk hl
  have convAvailable : k.tables = .satConv → t.ConvAvailable := fun hk => by
    simpa only [State.ConvAvailable, State.tgtGrays, State.srcGrays, params, regs, conv] using
      Kernel.convAvailable_of_lookups hk hl
  cases hk : k.tables with
  | none => exact ⟨t, by simp only [Kernel.lookups, hk]⟩
  | sat => exact ⟨_, Kernel.lookups_of_sat hk (satAvailable (by simp [hk]))⟩
  | satConv => exact ⟨_, Kernel.lookups_of_satConv hk (satAvailable (by simp [hk])) (convAvailable hk)⟩

theorem Kernel.eq_withCaches_of_lookups (hl : k.lookups s = .ok s1) : s1 = s.withCaches s1.sat s1.conv :=
  Kernel.lookups_changes_caches_only k s s1 (.inl hl)

theorem Kernel.lookups_of_noTables (hk : k.tables = .none) (hl : k.lookups s = .ok s1) : s1 = s := by
  simp only [Kernel.lookups, hk] at hl
  exact (Except.ok.inj hl).symm

end

/-! ### Completion (45_dispatch.md R259) -/

/-- What a completed kernel leaves of a state whose lookups left the lists `sat` and `conv`. -/
def State.afterKernel (s : State) (k : Kernel) (sat : List Count) (conv : List (Count × Count)) : State :=
  ((s.withCaches sat conv).withCanvas (k.composite (s.withCaches sat conv))).finishOk false k.id

/-- `STATUS` after kernel `id`: `DONE`, and the id in `PATH`. -/
theorem statusWord_of_path (id : BitVec 5) :
    0#3 ++ id ++ 0#4 ++ 0#4 ++ 0#8 ++ 0#5 ++ 0#1 ++ 1#1 ++ 0#1 = BitVec.ofNat 32 (id.toNat * 2 ^ 24 + 2) := by
  revert id
  decide

section
variable {i : Instr} {k : Kernel} {s s1 : State} {sat : List Count} {conv : List (Count × Count)}

theorem exec_of_admitted (hk : kernelOf i = some k) (hl : k.lookups s = .ok s1) (ha : s.Admitted k.sf k.tf) :
    exec i s = .next (s.afterKernel k s1.sat s1.conv) := by
  have same := Kernel.eq_withCaches_of_lookups hl
  have admitted : ∀ a ∈ k.accessSet s1, admits s1.params a = true := by
    rw [same]
    exact ha
  rw [exec_of_kernelOf hk, runKernel_of_admitted hl admitted, State.afterKernel, ← same]

theorem State.afterKernel_statusWord :
    (s.afterKernel k sat conv).statusWord = BitVec.ofNat 32 (k.id.toNat * 2 ^ 24 + 2) :=
  statusWord_of_path k.id

/-- With overlapping or disturbed spans every byte of the target span is free (20_memory.md R75, R76). -/
theorem State.freed_afterKernel (h : s.disturbed = true ∨ ∃ a ∈ s.srcSpan k.sf, a ∈ s.tgtSpan k.tf) :
    s.Freed (s.afterKernel k sat conv) (s.tgtSpan k.tf) := by
  have freed : k.composite (s.withCaches sat conv) = s.canvas.scrambleAll (s.tgtSpan k.tf) :=
    Kernel.composite_of_free k (s.withCaches sat conv) h
  exact State.freed_of_scrambleAll (congrArg Canvas.mem freed) (congrArg Canvas.draws freed)

theorem State.read_afterKernel_other (ha : s.Admitted k.sf k.tf) (n : Nat) (hn : (n : Int) ∉ s.tgtSpan k.tf) :
    Memory.read (s.afterKernel k sat conv).mem n = Memory.read s.mem n :=
  Kernel.read_composite_other k (s.withCaches sat conv) n
    (fun a hspan => admits_nonneg (ha a (List.mem_append_right _ hspan))) hn

end

/-- Settles O24: the command completes after its lookups; what it paints lies in its target span. -/
theorem kernelRowsCompleteAndKeepTheRest : Obligations.KernelRowsCompleteAndKeepTheRest := by
  intro i k s s1 hk hl ha
  refine ⟨_, exec_of_admitted hk hl ha, State.afterKernel_statusWord, rfl, fun noTables => ?_, State.freed_afterKernel,
    State.read_afterKernel_other ha⟩
  rw [Kernel.lookups_of_noTables noTables hl]
  exact ⟨rfl, rfl⟩

/-! ### Disturbed commands (20_memory.md R76) -/

section
variable {i : Instr} {k : Kernel} {s s1 : State}

/-- The kernel of a BUSY block whose lookups succeed is pending, so its spans are. -/
theorem State.pendingKernel_eq (hp : s.phase = .busy) (hi : decodeKey s.ctx.shownKey = .ok i)
    (hk : kernelOf i = some k) (hl : k.lookups s = .ok s1) : s.pendingKernel = some (k, s1) := by
  have instr : s.pendingInstr = .ok i := hi
  simp only [State.pendingKernel, hp, instr, hk, hl]

theorem State.pendingSource_eq (h : s.pendingKernel = some (k, s1)) : s.pendingSource = s.srcSpan k.sf := by
  simp only [State.pendingSource, h]

theorem State.pendingTarget_eq (h : s.pendingKernel = some (k, s1)) : s.pendingTarget = s.tgtSpan k.tf := by
  simp only [State.pendingTarget, h]

theorem State.hostMemWrite_of_span (h : s.pendingKernel = some (k, s1)) {a : Nat} (v : Byte)
    (ha : (a : Int) ∈ s.srcSpan k.sf ++ s.tgtSpan k.tf) :
    s.hostMemWrite a v = { s with mem := Memory.write s.mem a v, disturbed := true } := by
  have touched : (s.disturbed || s.pendingSource.contains (a : Int) || s.pendingTarget.contains (a : Int)) = true := by
    rw [State.pendingSource_eq h, State.pendingTarget_eq h]
    rcases List.mem_append.1 ha with ha | ha <;> simp [ha]
  simp only [State.hostMemWrite, touched]

theorem State.hostMemRead_of_target (h : s.pendingKernel = some (k, s1)) {a : Nat} (ha : (a : Int) ∈ s.tgtSpan k.tf) :
    s.hostMemRead a = { s with memData := Config.freeByte s.draws, draws := s.draws + 1, disturbed := true } := by
  rw [State.hostMemRead, State.pendingTarget_eq h, if_pos (by simpa using ha)]

/-- The block of `s` after a host access to the spans, its last event. -/
def State.touched (s : State) (m : List Host.Cell) (v : Byte) (n : Nat) : State :=
  { s with mem := m, memData := v, draws := n, disturbed := true, schedule := [] }

/-- A command whose spans the host has touched completes with a free target span. -/
theorem step_touched (hp : s.phase = .busy) (hi : decodeKey s.ctx.shownKey = .ok i) (hk : kernelOf i = some k)
    (hl : k.lookups s = .ok s1) (ha : s.Admitted k.sf k.tf) (m : List Host.Cell) (v : Byte) (n : Nat) :
    ∃ u, step (s.touched m v n) = .next u ∧ u.status = (s.completed k.id).status ∧ u.phase = .idle ∧
      u.disturbed = false ∧ (s.touched m v n).Freed u (s.tgtSpan k.tf) ∧
      ∀ b : Nat, (b : Int) ∉ s.tgtSpan k.tf → Memory.read u.mem b = Memory.read (s.touched m v n).mem b := by
  have turn : step (s.touched m v n) = exec i (s.touched m v n) := step_of_unitTurn_busy hp hi (turn_nil rfl)
  obtain ⟨t1, lookups⟩ := Kernel.lookups_ok_congr (t := s.touched m v n) hl rfl rfl rfl rfl
  exact ⟨_, turn.trans (exec_of_admitted hk lookups ha), rfl, rfl, rfl,
    State.freed_afterKernel (s := s.touched m v n) (.inl rfl), State.read_afterKernel_other (s := s.touched m v n) ha⟩

end

/-- Settles O59: either access marks the command, and the marked command frees its target span. -/
theorem disturbedCommandsStillComplete : Obligations.DisturbedCommandsStillComplete := by
  intro s k i a v s1 hp haddr hi hk hl ha access
  obtain ⟨t1, lookups⟩ := Kernel.lookups_ok_congr (t := s.withSchedule []) hl rfl rfl rfl rfl
  have pending := State.pendingKernel_eq (s := s.withSchedule []) hp hi hk lookups
  have next := step_touched hp hi hk hl ha
  rcases access with ⟨hs, span⟩ | ⟨hs, span⟩
  · have first := step_memWrite haddr hs
    rw [State.hostMemWrite_of_span pending v span] at first
    obtain ⟨u, second⟩ := next (Memory.write s.mem a v) s.memData s.draws
    refine ⟨_, u, first, rfl, fun read => ?_, fun _ b hb => Memory.read_write_other s.mem a b v hb, second⟩
    simp [hs] at read
  · have first := step_memRead haddr hs
    rw [State.hostMemRead_of_target pending span] at first
    obtain ⟨u, second⟩ := next s.mem (Config.freeByte s.draws) (s.draws + 1)
    refine ⟨_, u, first, rfl, fun _ => ⟨rfl, rfl, rfl⟩, fun write => ?_, second⟩
    simp [hs] at write

end Sys2Proof.Machine

/-! Gray into gray (spec 42_gray.md R183, R184): a ready command whose pixels stand apart leaves in each target byte the
table's entry, or a free value past the table. -/

namespace Sys2Proof.Machine

/-! ### The table's answer (44_lut_cache.md R221, R222) -/

section
variable {g j : Nat}

theorem saturated_of_le (hg : 1 ≤ g) (h : j ≤ 3 * g - 2) : saturated g j = .put [BitVec.ofNat 8 (min j (g - 1))] := by
  obtain ⟨ramp, clamp, -⟩ := saturationTableEntries g j hg
  rcases Nat.lt_or_ge j g with below | above
  · rw [saturated, ramp (by omega), min_eq_left (by omega)]
  · rw [saturated, clamp above h, min_eq_right (by omega)]

theorem saturated_of_gt (hg : 1 ≤ g) (h : 3 * g - 2 < j) : saturated g j = .any := by
  rw [saturated, (saturationTableEntries g j hg).2.2 h]

/-- An entry fits a byte: a valid count is at most 256. -/
theorem toNat_saturated (hg : 1 ≤ g) (h : g ≤ 256) : (BitVec.ofNat 8 (min j (g - 1))).toNat = min j (g - 1) :=
  Nat.mod_eq_of_lt (by omega)

end

/-! ### One pixel of the gray-into-gray kernels -/

/-- A kernel from gray to gray with pixel law `law`: kernels 17 and 18. -/
def intoGray (path : BitVec 5) (tables : Tables) (law : PixelLaw) : Kernel := ⟨path, .gray, .gray, tables, law⟩

section
variable {i : Instr} {path : BitVec 5} {tables : Tables} {law : PixelLaw} {s : State} {p : Pixel}
  {sat : List Count} {conv : List (Count × Count)}

theorem State.tgtBytes_gray (s : State) (p : Pixel) : s.tgtBytes .gray p = [s.tgtAddr 1 p] := by
  simp [State.tgtBytes, pixelBytes, State.tgtAddr]

theorem State.ReadyApart.withCaches {sf tf : Format} (h : s.ReadyApart sf tf) (sat : List Count)
    (conv : List (Count × Count)) : (s.withCaches sat conv).ReadyApart sf tf :=
  ⟨h.canonical, ⟨h.ready.admitted, ⟨h.ready.undisturbed.apart, h.ready.undisturbed.quiet⟩⟩, h.apart⟩

/-- A ready command runs its pixel loop on the memory it began with. -/
theorem State.ReadyApart.composite {k : Kernel} (h : s.ReadyApart k.sf k.tf) (sat : List Count)
    (conv : List (Count × Count)) :
    k.composite (s.withCaches sat conv) = k.paint (s.withCaches sat conv) s.canvas :=
  Kernel.composite_of_undisturbed k (s.withCaches sat conv) h.ready.undisturbed.quiet h.ready.undisturbed.apart

variable (h : s.ReadyApart .gray .gray) (hp : p ∈ s.visible)
include h hp

theorem State.ReadyApart.gray_of_put {b : Byte}
    (hact : (intoGray path tables law).act (s.withCaches sat conv) s.canvas p = .put [b]) :
    (s.afterKernel (intoGray path tables law) sat conv).byteAt (s.tgtAddr 1 p) = b := by
  have cached := h.withCaches sat conv
  have bytes := s.tgtBytes_gray p
  have painted := Kernel.paint_put (intoGray path tables law) (s.withCaches sat conv) s.canvas p hp
    cached.ready.nonneg_src cached.ready.nonneg_tgt cached.ready.undisturbed.apart cached.apart cached.canonical
    (bytes ▸ List.nodup_singleton _ : (s.tgtBytes .gray p).Nodup) [b] hact 0 (s.tgtAddr 1 p) b
    (bytes ▸ rfl : (s.tgtBytes .gray p)[0]? = _) rfl
  have loop := State.ReadyApart.composite (k := intoGray path tables law) h sat conv
  exact (congrArg (Canvas.byte · _) loop).trans painted

theorem State.ReadyApart.gray_of_any
    (hact : (intoGray path tables law).act (s.withCaches sat conv) s.canvas p = .any) :
    s.Drew (s.afterKernel (intoGray path tables law) sat conv) (s.tgtAddr 1 p) := by
  have cached := h.withCaches sat conv
  obtain ⟨n, low, high, byte⟩ := Kernel.paint_any (intoGray path tables law) (s.withCaches sat conv) s.canvas p hp
    cached.ready.nonneg_src cached.ready.nonneg_tgt cached.ready.undisturbed.apart cached.apart cached.canonical hact
    (s.tgtAddr 1 p) (s.tgtBytes_gray p ▸ List.mem_singleton.2 rfl : s.tgtAddr 1 p ∈ s.tgtBytes .gray p)
  rw [← State.ReadyApart.composite (k := intoGray path tables law) h sat conv] at high byte
  exact ⟨n, low, high, byte⟩

/-- A pixel that asks the saturation table at `index` holds the clamped index, or a free value past the table. -/
theorem State.ReadyApart.gray_of_saturated {index : Nat} (hvalid : validCount s.tgtGrays = true)
    (hact : (intoGray path tables law).act (s.withCaches sat conv) s.canvas p = saturated s.tgtGrays.toNat index) :
    (index ≤ 3 * s.tgtGrays.toNat - 2 →
      ((s.afterKernel (intoGray path tables law) sat conv).byteAt (s.tgtAddr 1 p)).toNat =
        min index (s.tgtGrays.toNat - 1)) ∧
    (3 * s.tgtGrays.toNat - 2 < index →
      s.Drew (s.afterKernel (intoGray path tables law) sat conv) (s.tgtAddr 1 p)) := by
  obtain ⟨low, high⟩ := (validCount_eq_true_iff _).1 hvalid
  refine ⟨fun inside => ?_, fun past => h.gray_of_any hp (hact.trans (saturated_of_gt (by omega) past))⟩
  rw [h.gray_of_put hp (hact.trans (saturated_of_le (by omega) inside)), toNat_saturated (by omega) high]

end

/-! ### The two laws (R183, R184) -/

section
variable {s : State} {p : Pixel} {sat : List Count} {conv : List (Count × Count)}

/-- The old value of the target pixel, which the laws add to. -/
theorem State.oldPixel_gray (s : State) (p : Pixel) : s.oldPixel .gray p 0 = s.byteAt (s.tgtAddr 1 p) :=
  Canvas.pixel_of_getElem? _ _ _ _ (s.tgtBytes_gray p ▸ rfl)

theorem g2gSame_act (s : State) (p : Pixel) (sat : List Count) (conv : List (Count × Count)) :
    kernelG2gSame.act (s.withCaches sat conv) s.canvas p =
      saturated s.tgtGrays.toNat ((s.byteAt (s.tgtAddr 1 p)).toNat + s.coverageAt p) := by
  rw [← s.oldPixel_gray p]
  rfl

theorem lawG2gConv_eq (s : State) (sx tx : Nat) (src old : Nat → Byte) : lawG2gConv s sx tx src old =
    (convEntry s.tgtGrays.toNat s.srcGrays.toNat (src 0).toNat).elim .any fun k =>
      saturated s.tgtGrays.toNat ((old 0).toNat + k) := by
  unfold lawG2gConv
  cases convEntry s.tgtGrays.toNat s.srcGrays.toNat (src 0).toNat <;> rfl

theorem g2gConv_act (s : State) (p : Pixel) (sat : List Count) (conv : List (Count × Count)) :
    kernelG2gConv.act (s.withCaches sat conv) s.canvas p =
      (convEntry s.tgtGrays.toNat s.srcGrays.toNat (s.coverageAt p)).elim .any fun k =>
        saturated s.tgtGrays.toNat ((s.byteAt (s.tgtAddr 1 p)).toNat + k) := by
  rw [← s.oldPixel_gray p]
  exact lawG2gConv_eq _ (s.srcX p) (s.tgtX p) _ _

theorem g2gConv_act_of_lt (h : s.coverageAt p < s.srcGrays.toNat) :
    kernelG2gConv.act (s.withCaches sat conv) s.canvas p =
      saturated s.tgtGrays.toNat ((s.byteAt (s.tgtAddr 1 p)).toNat +
        s.coverageAt p * (s.tgtGrays.toNat - 1) / (s.srcGrays.toNat - 1)) := by
  rw [g2gConv_act, convEntry_eq_some _ h, Option.elim_some]

theorem g2gConv_act_of_le (h : s.srcGrays.toNat ≤ s.coverageAt p) :
    kernelG2gConv.act (s.withCaches sat conv) s.canvas p = .any := by
  rw [g2gConv_act, convEntry_eq_none _ h, Option.elim_none]

end

/-- Settles O39: each pixel asks the table at the sum of its old value and its coverage. -/
theorem grayIntoGrayAddsAndClamps : Obligations.GrayIntoGrayAddsAndClamps := by
  intro s256 s hwf hvalid (hsat : s.SatAvailable) hr hapart
  have h : s.ReadyApart .gray .gray := ⟨hwf, hr, hapart⟩
  exact ⟨_, exec_of_admitted rfl (Kernel.lookups_of_sat (k := kernelG2gSame) rfl hsat) hr.admitted, rfl,
    State.read_afterKernel_other (k := kernelG2gSame) hr.admitted,
    fun p hp => h.gray_of_saturated (tables := .sat) hp hvalid (g2gSame_act s p s.satWithKey s.conv)⟩

/-- Settles O40: a coverage in range asks the table at its rescaled sum, one out of range frees the byte. -/
theorem grayIntoGrayRescales : Obligations.GrayIntoGrayRescales := by
  intro s256 s hwf hvalid (hsat : s.SatAvailable) (hconv : s.ConvAvailable) hr hapart
  have h : s.ReadyApart .gray .gray := ⟨hwf, hr, hapart⟩
  refine ⟨_, exec_of_admitted rfl (Kernel.lookups_of_satConv (k := kernelG2gConv) rfl hsat hconv) hr.admitted, rfl,
    State.read_afterKernel_other (k := kernelG2gConv) hr.admitted, fun p hp => ?_⟩
  rcases Nat.lt_or_ge (s.coverageAt p) s.srcGrays.toNat with covered | above
  · obtain ⟨inside, past⟩ := h.gray_of_saturated (tables := .satConv) hp hvalid
      (g2gConv_act_of_lt (sat := s.satWithKey) (conv := s.convWithKey) covered)
    exact ⟨fun _ => inside, fun out => past (out.resolve_left covered.not_ge)⟩
  · exact ⟨fun covered => absurd covered above.not_gt, fun _ =>
      h.gray_of_any (tables := .satConv) hp (g2gConv_act_of_le (sat := s.satWithKey) (conv := s.convWithKey) above)⟩

end Sys2Proof.Machine

/-! Commands that draw no free value (spec 70_reset_and_hazards.md R297): while every coverage is below the source
count, no pixel law asks for one; for gray into gray the target bytes stay below the target count as the loop goes on. -/

namespace Sys2Proof.Machine

/-! ### The duties of R297 -/

/-- Every source byte is a coverage below the source count. -/
def State.CoveragesInRange (s : State) (sf : Format) : Prop :=
  ∀ a ∈ s.srcSpan sf, (s.byteAt a).toNat + 1 ≤ s.srcGrays.toNat

/-- Every byte of the target span is below the target count. -/
def State.TargetInRange (s : State) (c : Canvas) : Prop :=
  ∀ a ∈ s.tgtSpan .gray, (c.byte a).toNat + 1 ≤ s.tgtGrays.toNat

/-- On a canvas that holds the source as the command began, no visible pixel asks for a free value. -/
def Kernel.AsksNone (k : Kernel) (s : State) : Prop :=
  ∀ c : Canvas, ∀ p ∈ s.visible, s.SourceKept k.sf c → k.act s c p ≠ .any

section
variable {k : Kernel} {s : State} {c : Canvas} {p : Pixel}

/-- A source byte of a visible pixel, read in the loop, is in range. -/
theorem State.CoveragesInRange.pixel {sf : Format} (h : s.CoveragesInRange sf) (hp : p ∈ s.visible)
    (hc : s.SourceKept sf c) {j : Nat} {a : Int} (ha : (s.srcBytes sf p)[j]? = some a) :
    (c.pixel (s.srcBytes sf p) j).toNat + 1 ≤ s.srcGrays.toNat := by
  have span := State.mem_srcSpan hp (List.mem_of_getElem? ha)
  rw [Canvas.pixel_of_getElem? c _ j a ha, hc a span]
  exact h a span

theorem Kernel.draws_paintPixel (h : k.act s c p ≠ .any) : (k.paintPixel s c p).draws = c.draws := by
  cases hact : k.act s c p with
  | skip => rw [Kernel.paintPixel_of_skip hact]
  | put bytes => rw [Kernel.paintPixel_of_put hact, Canvas.draws_putAll]
  | any => exact absurd hact h

theorem Kernel.AsksNone.draws_paint (h : k.AsksNone s) (hr : s.Ready k.sf k.tf) :
    (k.paint s s.canvas).draws = s.draws :=
  (Kernel.paint_induction (P := fun d => s.SourceKept k.sf d ∧ d.draws = s.draws) k s s.canvas
    ⟨s.sourceKept_canvas k.sf, rfl⟩ fun d p hp ⟨kept, hd⟩ =>
      ⟨hr.sourceKept_paintPixel hp kept, (Kernel.draws_paintPixel (h d p hp kept)).trans hd⟩).2

/-! ### The general laws (R172, R201) -/

theorem lawGrayGeneral_ne_any (tf : Format) (sx tx : Nat) {src : Nat → Byte} (old : Nat → Byte)
    (h : (src 0).toNat ≤ s.maxCoverage) : lawGrayGeneral tf s sx tx src old ≠ .any := by
  simp only [lawGrayGeneral]
  by_cases zero : (src 0).toNat = 0
  · rw [if_pos zero]
    exact nofun
  · rw [if_neg zero]
    rcases h.lt_or_eq with short | full
    · rw [if_neg short.ne, if_pos short]
      exact nofun
    · rw [if_pos full]
      exact nofun

theorem lcdGeneral_ne_any {m cR cG cB : Nat} (old : Nat → Byte) (h : cR ≤ m ∧ cG ≤ m ∧ cB ≤ m) :
    lcdGeneral s m cR cG cB old ≠ .any := by
  have noneAbove : ¬(cR > m ∨ cG > m ∨ cB > m) := by omega
  simp only [lcdGeneral, if_neg noneAbove]
  split_ifs <;> exact nofun

theorem grayGeneral_asksNone (path : BitVec 5) (tf : Format) (h : s.CoveragesInRange .gray) :
    (grayKernel path tf (lawGrayGeneral tf)).AsksNone s := fun _ p hp kept =>
  lawGrayGeneral_ne_any tf (s.srcX p) (s.tgtX p) _ (Nat.le_sub_one_of_lt (h.pixel hp kept (j := 0) rfl))

theorem lcdGeneral_asksNone (path : BitVec 5) {sf : Format} (hsf : sf.isLcd = true) (h : s.CoveragesInRange sf) :
    (lcdKernel path sf lawLcdGeneral).AsksNone s := by
  intro c p hp kept
  have covered {j : Nat} (hj : j < 3) : (c.pixel (s.srcBytes sf p) j).toNat ≤ s.maxCoverage :=
    Nat.le_sub_one_of_lt (h.pixel hp kept (s.srcBytes_lcd_getElem? hsf p hj))
  have r := covered (j := 0) (by decide)
  have g := covered (j := 1) (by decide)
  have b := covered (j := 2) (by decide)
  simp only [Kernel.act, lcdKernel, lawLcdGeneral, coverages]
  cases sf.isReversed
  · exact lcdGeneral_ne_any _ ⟨r, g, b⟩
  · exact lcdGeneral_ne_any _ ⟨b, g, r⟩

end

/-! ### Gray into gray (R183, R184) -/

section
variable {path : BitVec 5} {tables : Tables} {law : PixelLaw} {s : State} {c : Canvas} {p : Pixel}

/-- While source and target bytes are in range, every visible pixel asks the saturation table inside its range. -/
def Kernel.AsksInside (k : Kernel) (s : State) : Prop :=
  ∀ c : Canvas, ∀ p ∈ s.visible, s.SourceKept k.sf c → s.TargetInRange c →
    ∃ index, k.act s c p = saturated s.tgtGrays.toNat index ∧ index + 2 ≤ 3 * s.tgtGrays.toNat

/-- A pixel that asks the table inside its range leaves a byte below the target count. -/
theorem saturated_inside {g index : Nat} (h : index + 2 ≤ 3 * g) :
    ∃ b : Byte, saturated g index = .put [b] ∧ b.toNat + 1 ≤ g := by
  have bound : (BitVec.ofNat 8 (min index (g - 1))).toNat ≤ min index (g - 1) := Nat.mod_le _ _
  exact ⟨_, saturated_of_le (by omega) (by omega), by omega⟩

theorem State.TargetInRange.paintPixel {b : Byte} (h : s.TargetInRange c) (hr : s.Ready .gray .gray)
    (hp : p ∈ s.visible) (hwf : Memory.wf c.mem = true) (hact : (intoGray path tables law).act s c p = .put [b])
    (hb : b.toNat + 1 ≤ s.tgtGrays.toNat) : s.TargetInRange ((intoGray path tables law).paintPixel s c p) := by
  intro a ha
  have nonneg := hr.nonneg_tgt _ (State.mem_tgtSpan hp (s.tgtBytes_gray p ▸ List.mem_singleton.2 rfl))
  have after := Kernel.read_paintPixel_of_one_byte (k := intoGray path tables law) (stroke := fun _ => b) hwf nonneg
    (s.tgtBytes_gray p) hact a.toNat
  rw [Canvas.byte, after]
  split_ifs
  · exact hb
  · exact h a ha

theorem Kernel.AsksInside.draws_paint (h : (intoGray path tables law).AsksInside s) (hr : s.Ready .gray .gray)
    (hwf : Memory.wf s.mem = true) (htgt : s.TargetInRange s.canvas) :
    ((intoGray path tables law).paint s s.canvas).draws = s.draws := by
  refine (Kernel.paint_induction
    (P := fun d => Memory.wf d.mem = true ∧ s.SourceKept .gray d ∧ s.TargetInRange d ∧ d.draws = s.draws)
    (intoGray path tables law) s s.canvas ⟨hwf, s.sourceKept_canvas .gray, htgt, rfl⟩ ?_).2.2.2
  rintro d p hp ⟨wf, kept, inside, hd⟩
  obtain ⟨index, asked, bound⟩ := h d p hp kept inside
  obtain ⟨b, put, hb⟩ := saturated_inside bound
  have hact := asked.trans put
  exact ⟨Kernel.wf_paintPixel _ s d p wf,
    State.Ready.sourceKept_paintPixel (k := intoGray path tables law) hr hp kept,
    inside.paintPixel hr hp wf hact hb, (Kernel.draws_paintPixel (by simp [hact])).trans hd⟩

/-- The old byte of a visible pixel and its coverage, read in the loop, are in range. -/
theorem State.TargetInRange.pixel (h : s.TargetInRange c) (hp : p ∈ s.visible) :
    (c.pixel (s.tgtBytes .gray p) 0).toNat + 1 ≤ s.tgtGrays.toNat := by
  have here : s.tgtAddr 1 p ∈ s.tgtBytes .gray p := s.tgtBytes_gray p ▸ List.mem_singleton.2 rfl
  rw [Canvas.pixel_of_getElem? c _ 0 (s.tgtAddr 1 p) (s.tgtBytes_gray p ▸ rfl)]
  exact h _ (State.mem_tgtSpan hp here)

theorem g2gSame_asksInside (hsrc : s.CoveragesInRange .gray) (same : s.srcGrays = s.tgtGrays) :
    kernelG2gSame.AsksInside s := by
  intro c p hp kept inside
  have covered := hsrc.pixel hp kept (j := 0) rfl
  have old := inside.pixel hp
  rw [same] at covered
  exact ⟨(c.pixel (s.tgtBytes .gray p) 0).toNat + (c.pixel (s.srcBytes .gray p) 0).toNat, rfl, by omega⟩

theorem g2gConv_asksInside (hsrc : s.CoveragesInRange .gray) : kernelG2gConv.AsksInside s := by
  intro c p hp kept inside
  have covered := hsrc.pixel hp kept (j := 0) rfl
  have old := inside.pixel hp
  have rescaled : (c.pixel (s.srcBytes .gray p) 0).toNat * (s.tgtGrays.toNat - 1) / (s.srcGrays.toNat - 1) ≤
      s.tgtGrays.toNat - 1 := Nat.div_le_of_le_mul (Nat.mul_le_mul_right _ (Nat.le_sub_one_of_lt covered))
  refine ⟨(c.pixel (s.tgtBytes .gray p) 0).toNat +
    (c.pixel (s.srcBytes .gray p) 0).toNat * (s.tgtGrays.toNat - 1) / (s.srcGrays.toNat - 1), ?_, by omega⟩
  have law := lawG2gConv_eq s (s.srcX p) (s.tgtX p) (c.pixel (s.srcBytes .gray p)) (c.pixel (s.tgtBytes .gray p))
  rw [convEntry_eq_some _ covered, Option.elim_some] at law
  exact law

end

/-! ### All kernels -/

/-- The kernels by their pixel law: eight mono, four fast gray and two fast LCD ones that never draw, four general gray,
four general LCD, and the two from gray to gray. -/
theorem kernelOf_cases {i : Instr} {k : Kernel} (h : kernelOf i = some k) :
    k.OnlyPaints ∨ (∃ path tf, k = grayKernel path tf (lawGrayGeneral tf)) ∨
      (∃ path sf, sf.isLcd = true ∧ k = lcdKernel path sf lawLcdGeneral) ∨ k = kernelG2gSame ∨ k = kernelG2gConv := by
  cases i <;> simp only [kernelOf, Option.some.injEq, reduceCtorEq] at h <;> subst h
  case m2m => exact .inl kernelM2M_onlyPaints
  case m2p4 => exact .inl kernelM2P4_onlyPaints
  case m2p8 | m2g8 | m2r555 | m2r565 | m2r24 | m2r32 => exact .inl (monoSolid_onlyPaints _ _)
  case g8r555 | g8r565 | g8r24 | g8r32 => exact .inl (grayFast_onlyPaints _ _)
  case lcdh8 => exact .inl (lcdFast_onlyPaints 20 .lcdH)
  case lcdhr8 => exact .inl (lcdFast_onlyPaints 22 .lcdHR)
  case g2r555 | g2r565 | g2r24 | g2r32 => exact .inr (.inl ⟨_, _, rfl⟩)
  case lcdh => exact .inr (.inr (.inl ⟨19, .lcdH, rfl, rfl⟩))
  case lcdhr => exact .inr (.inr (.inl ⟨21, .lcdHR, rfl, rfl⟩))
  case lcdv => exact .inr (.inr (.inl ⟨23, .lcdV, rfl, rfl⟩))
  case lcdvr => exact .inr (.inr (.inl ⟨24, .lcdVR, rfl, rfl⟩))
  case g2gSame => exact .inr (.inr (.inr (.inl rfl)))
  case g2gConv => exact .inr (.inr (.inr (.inr rfl)))

theorem Kernel.draws_paint_in_range {i : Instr} {k : Kernel} {s : State} (hk : kernelOf i = some k)
    (hr : s.Ready k.sf k.tf) (hwf : Memory.wf s.mem = true) (same : k.tables = .sat → s.srcGrays = s.tgtGrays)
    (hsrc : k.sf ≠ .mono → s.CoveragesInRange k.sf)
    (htgt : k.sf = .gray → k.tf = .gray → s.TargetInRange s.canvas) : (k.paint s s.canvas).draws = s.draws := by
  rcases kernelOf_cases hk with paints | ⟨path, tf, rfl⟩ | ⟨path, sf, hsf, rfl⟩ | rfl | rfl
  · exact Kernel.draws_paint k s s.canvas fun d p _ => paints.noDraw s d p
  · exact (grayGeneral_asksNone path tf (hsrc (by simp [grayKernel]))).draws_paint hr
  · have notMono : sf ≠ .mono := by
      rintro rfl
      exact absurd hsf (by decide)
    exact (lcdGeneral_asksNone path hsf (hsrc notMono)).draws_paint hr
  · exact Kernel.AsksInside.draws_paint (g2gSame_asksInside (hsrc (by decide)) (same rfl)) hr hwf (htgt rfl rfl)
  · exact Kernel.AsksInside.draws_paint (g2gConv_asksInside (hsrc (by decide))) hr hwf (htgt rfl rfl)

/-- Settles O60: an error draws nothing, and a ready kernel whose bytes are in range runs its loop without a draw. -/
theorem inRangeCommandsDrawNothing : Obligations.InRangeCommandsDrawNothing := by
  intro i k s t hk h hwf hr same hsrc htgt
  rcases exec_next h with ⟨k', s1, -, hl, rfl⟩ | ⟨k', s1, hk', hl, -, rfl⟩ | ⟨w, rfl, -⟩ | ⟨none, -⟩
  · rw [Kernel.lookups_changes_caches_only k' s s1 (.inr hl)]
    rfl
  · obtain rfl := Option.some.inj (hk.symm.trans hk')
    rw [Kernel.eq_withCaches_of_lookups hl]
    have ready : (s.withCaches s1.sat s1.conv).Ready k.sf k.tf :=
      ⟨hr.admitted, ⟨hr.undisturbed.apart, hr.undisturbed.quiet⟩⟩
    have loop := Kernel.composite_of_undisturbed k (s.withCaches s1.sat s1.conv) hr.undisturbed.quiet
      hr.undisturbed.apart
    have target (hsf : k.sf = .gray) (htf : k.tf = .gray) : s.TargetInRange s.canvas := fun a ha =>
      htgt hsf htf a (htf ▸ ha)
    exact (congrArg Canvas.draws loop).trans (Kernel.draws_paint_in_range hk ready hwf same hsrc target)
  · cases hk
  · exact nomatch hk.symm.trans none

end Sys2Proof.Machine
